-- ==== Sys2Proof/Word.lean ====
section
/-! DEFINITION. The word types of the SPI controller's two interfaces and the raw requests that arrive on them
(30_encoding.md R63, R67, R69; widths of 00_scope.md R10). -/
namespace Sys2Proof

/-- One byte: a frame (FRAME_BITS = 8) or a byte of system memory. -/
abbrev Byte := BitVec 8

/-- A register value as the bus carries it (REG_WIDTH = 32). -/
abbrev Word := BitVec 32

/-- A system-memory address (ADDR_BITS = 32, R10). -/
abbrev Addr := BitVec 32

/-- One FIFO entry (FIFO_ENTRY_BITS = 16, R29). -/
abbrev Entry := BitVec 16

/-- The CFG operand: the 64-bit word that encodes a ControllerConfig (R68). -/
abbrev CfgWord := BitVec 64

/-- One buffer descriptor `(addr, len)` (R69). -/
structure Desc where
  addr : Addr
  len : BitVec 32
deriving DecidableEq, Repr, Inhabited

/-- A TX or RX operand: ABSENT (`none`) or a list of zero or more descriptors (R69). -/
abbrev BufSet := Option (List Desc)

/-- A BUS transaction as it arrives: the 9-bit selector word B and the 32 data bits, which only a write
uses (R63). -/
structure BusRequest where
  selector : BitVec 9
  wdata : Word
deriving DecidableEq, Repr, Inhabited

/-- A command as it arrives: the 4-bit operation code and the operands by position (R67). An operation reads
only the operands its row of R67 lists. -/
structure CmdRequest where
  op : BitVec 4
  cfg : CfgWord
  tx : BufSet
  rx : BufSet
deriving DecidableEq, Repr, Inhabited

/-- What an interface receives: HOST's BUS transaction, or a command of client `k`. -/
inductive Request where
  | bus (r : BusRequest)
  | cmd (k : Nat) (c : CmdRequest)
deriving DecidableEq, Repr, Inhabited

end Sys2Proof
end

