-- ==== Sys2Proof/Machine/Operands.lean ====
section
/-! DEFINITION. Every operand form of the two interfaces: the fields of a BUS selector (30_encoding.md R63), the fields
of the CFG word (R68), and the lengths and byte addresses of a buffer set (43_transfer_context.md R123, R124). -/
namespace Sys2Proof.Machine

/-- OFF, bits 5:0 of a selector: the byte offset from BASE_ADDR (R63). -/
def selOff (b : BitVec 9) : BitVec 6 := b.extractLsb' 0 6

/-- W, bit 6 of a selector: 1 for a write (R63). -/
def selWrite (b : BitVec 9) : Bool := b.getLsbD 6

/-- SZ, bits 8:7 of a selector: the access size (R63). -/
def selSize (b : BitVec 9) : BitVec 2 := b.extractLsb' 7 2

/-- SLAVE, bit 0 of CFG: 1 asks for slave mode (R68). -/
def cfgSlave (c : CfgWord) : Bool := c.getLsbD 0

/-- CPOL, bit 1 of CFG: the clock polarity (R68). -/
def cfgCpol (c : CfgWord) : Bool := c.getLsbD 1

/-- CPHA, bit 2 of CFG: the clock phase (R68). -/
def cfgCpha (c : CfgWord) : Bool := c.getLsbD 2

/-- LOOP, bit 3 of CFG: the loopback flag (R68). -/
def cfgLoop (c : CfgWord) : Bool := c.getLsbD 3

/-- WS, bits 9:4 of CFG: the word size in bits (R68). -/
def cfgWs (c : CfgWord) : BitVec 6 := c.extractLsb' 4 6

/-- Bits 31:10 of CFG, which must be 0 (R68). -/
def cfgReserved (c : CfgWord) : BitVec 22 := c.extractLsb' 10 22

/-- FREQ, bits 63:32 of CFG: the requested frequency in Hz (R68). -/
def cfgFreq (c : CfgWord) : BitVec 32 := c.extractLsb' 32 32

/-- The sum of the lengths of a descriptor list, computed exactly. -/
def descsLen : List Desc → Nat
  | [] => 0
  | d :: ds => d.len.toNat + descsLen ds

/-- LEN(S): 0 when S is ABSENT, else the exact sum of its lengths (R123). -/
def bufLen : BufSet → Nat
  | none => 0
  | some ds => descsLen ds

/-- The address of byte `i` of a descriptor list: in the first descriptor that byte `i` lies in, wrapping at the top
of the address space; a descriptor of length 0 is skipped (R124). Past the end there is no address. -/
def descsAddr : List Desc → Nat → Option Addr
  | [], _ => none
  | d :: ds, i =>
    if i < d.len.toNat then some (d.addr + BitVec.ofNat 32 i) else descsAddr ds (i - d.len.toNat)

/-- ADDR(S, i) for `i < LEN(S)` (R124); none for an ABSENT set or a byte past the end. -/
def bufAddr : BufSet → Nat → Option Addr
  | none, _ => none
  | some ds, i => descsAddr ds i

/-- Whether the byte at `a` lies in one of a set's buffers (R58). -/
def bufCovers (s : BufSet) (a : Addr) : Bool :=
  match s with
  | none => false
  | some ds => ds.any (fun d => (a - d.addr).toNat < d.len.toNat)

end Sys2Proof.Machine
end

