-- ==== Sys2Proof/Syntax.lean ====
section
/-! DEFINITION. The instructions: one constructor per row of spec/opcode_table.json, the 20 BUS transactions of
30_encoding.md R65 and the five commands of R67. -/
namespace Sys2Proof

/-- A BUS write carries WDATA (R63). A command carries the index `k` of the client that issues it (R67) and the
operands its row lists, CFG as the raw 64-bit word (R68). -/
inductive Instr where
  | rdCr0
  | wrCr0 (wdata : Word)
  | rdCr1
  | wrCr1 (wdata : Word)
  | rdDr
  | wrDr (wdata : Word)
  | rdSr
  | wrSr (wdata : Word)
  | rdCpsr
  | wrCpsr (wdata : Word)
  | rdImsc
  | wrImsc (wdata : Word)
  | rdRis
  | wrRis (wdata : Word)
  | rdMis
  | wrMis (wdata : Word)
  | rdIcr
  | wrIcr (wdata : Word)
  | rdDmacr
  | wrDmacr (wdata : Word)
  | init (k : Nat)
  | configure (k : Nat) (cfg : CfgWord)
  | transceive (k : Nat) (cfg : CfgWord) (tx rx : BufSet)
  | release (k : Nat) (cfg : CfgWord)
  | transceiveAsync (k : Nat) (cfg : CfgWord) (tx rx : BufSet)
deriving DecidableEq, Repr

end Sys2Proof
end

