-- ==== Sys2Proof/Decode.lean ====
section
/-! DEFINITION. Decoding a request of either interface to an instruction or a named rejection (30_encoding.md R64, R65,
R67, R71), and the encoder written from the same tables. -/
namespace Sys2Proof

/-- Why a request is no instruction: the decode faults of R64 and R71. -/
inductive DecodeError where
  /-- SZ is not 0b10. -/
  | busWidth (selector : BitVec 9)
  /-- OFF is unaligned, or 0x28 or more. -/
  | busUnmapped (selector : BitVec 9)
  /-- Client `k` issued an OP of 0x5 or more. -/
  | reservedCommand (k : Nat) (op : BitVec 4)
deriving DecidableEq, Repr

/-- The row of R65 with a selector of SZ = 0b10, by OFF and then by W; none where OFF selects no register. -/
def decodeRegister (off : BitVec 6) (write : Bool) (wdata : Word) : Option Instr :=
  match off.toNat with
  | 0x00 => some (if write then .wrCr0 wdata else .rdCr0)
  | 0x04 => some (if write then .wrCr1 wdata else .rdCr1)
  | 0x08 => some (if write then .wrDr wdata else .rdDr)
  | 0x0C => some (if write then .wrSr wdata else .rdSr)
  | 0x10 => some (if write then .wrCpsr wdata else .rdCpsr)
  | 0x14 => some (if write then .wrImsc wdata else .rdImsc)
  | 0x18 => some (if write then .wrRis wdata else .rdRis)
  | 0x1C => some (if write then .wrMis wdata else .rdMis)
  | 0x20 => some (if write then .wrIcr wdata else .rdIcr)
  | 0x24 => some (if write then .wrDmacr wdata else .rdDmacr)
  | _ => none

/-- Decoding a BUS selector: the size first, then the offset (R64). -/
def decodeBus (r : BusRequest) : Except DecodeError Instr :=
  if Machine.selSize r.selector ≠ 2 then .error (.busWidth r.selector)
  else
    match decodeRegister (Machine.selOff r.selector) (Machine.selWrite r.selector) r.wdata with
    | some i => .ok i
    | none => .error (.busUnmapped r.selector)

/-- Decoding a command of client `k`: the row of R67 with that OP. The reserved bits of CFG are looked at when the
command is issued, after the checks that R71 puts before them. -/
def decodeCmd (k : Nat) (c : CmdRequest) : Except DecodeError Instr :=
  match c.op.toNat with
  | 0 => .ok (.init k)
  | 1 => .ok (.configure k c.cfg)
  | 2 => .ok (.transceive k c.cfg c.tx c.rx)
  | 3 => .ok (.release k c.cfg)
  | 4 => .ok (.transceiveAsync k c.cfg c.tx c.rx)
  | _ => .error (.reservedCommand k c.op)

/-- Decoding what an interface receives. -/
def decode : Request → Except DecodeError Instr
  | .bus r => decodeBus r
  | .cmd k c => decodeCmd k c

/-- A read's request: its selector, and no data. -/
def encodeRead (selector : BitVec 9) : Request := .bus { selector := selector, wdata := 0 }

/-- A write's request: its selector and WDATA. -/
def encodeWrite (selector : BitVec 9) (wdata : Word) : Request := .bus { selector := selector, wdata := wdata }

/-- A command's request: its OP and its operands; an operand its row does not list is 0 or ABSENT. -/
def encodeCmd (k : Nat) (op : BitVec 4) (cfg : CfgWord) (tx rx : BufSet) : Request :=
  .cmd k { op := op, cfg := cfg, tx := tx, rx := rx }

/-- The words of an instruction, by the selector table of R65 and the OP table of R67. -/
def encode : Instr → Request
  | .rdCr0 => encodeRead 0x100
  | .wrCr0 wdata => encodeWrite 0x140 wdata
  | .rdCr1 => encodeRead 0x104
  | .wrCr1 wdata => encodeWrite 0x144 wdata
  | .rdDr => encodeRead 0x108
  | .wrDr wdata => encodeWrite 0x148 wdata
  | .rdSr => encodeRead 0x10C
  | .wrSr wdata => encodeWrite 0x14C wdata
  | .rdCpsr => encodeRead 0x110
  | .wrCpsr wdata => encodeWrite 0x150 wdata
  | .rdImsc => encodeRead 0x114
  | .wrImsc wdata => encodeWrite 0x154 wdata
  | .rdRis => encodeRead 0x118
  | .wrRis wdata => encodeWrite 0x158 wdata
  | .rdMis => encodeRead 0x11C
  | .wrMis wdata => encodeWrite 0x15C wdata
  | .rdIcr => encodeRead 0x120
  | .wrIcr wdata => encodeWrite 0x160 wdata
  | .rdDmacr => encodeRead 0x124
  | .wrDmacr wdata => encodeWrite 0x164 wdata
  | .init k => encodeCmd k 0x0 0 none none
  | .configure k cfg => encodeCmd k 0x1 cfg none none
  | .transceive k cfg tx rx => encodeCmd k 0x2 cfg tx rx
  | .release k cfg => encodeCmd k 0x3 cfg none none
  | .transceiveAsync k cfg tx rx => encodeCmd k 0x4 cfg tx rx

/-- The request whose bits are `w`, numbered as the opcode table numbers them (log entry 13). A row of at most 8 bits
is a command of client 0: OP in bits 3:0 of its byte, then CFG, and ABSENT buffer sets. A longer row is a BUS
transaction: the selector in bits 8:0 of a 16-bit word, then WDATA. The unused bits of the first word are 0. -/
def tableRequest (nbits w : Nat) : Option Request :=
  if nbits ≤ 8 then
    if w % 256 < 16 then
      some (.cmd 0 { op := BitVec.ofNat 4 w, cfg := BitVec.ofNat 64 (w / 256), tx := none, rx := none })
    else none
  else
    if w % 65536 < 512 then
      some (.bus { selector := BitVec.ofNat 9 w, wdata := BitVec.ofNat 32 (w / 65536) })
    else none

/-- The instruction the decoder reads from the bits of an opcode-table row; none where it refuses. -/
def decodeTableWord (nbits w : Nat) : Option Instr :=
  match tableRequest nbits w with
  | none => none
  | some r =>
    match decode r with
    | .ok i => some i
    | .error _ => none

end Sys2Proof
end

