-- ==== Sys2Proof/Config.lean ====
section
/-! DEFINITION. The implementation parameters of 00_scope.md R10, the names of the steps an agent can take
(R7, 45_controller_sequencer.md R154), and the free values: the constants with no body that stand for what the
spec leaves to a draw. -/
namespace Sys2Proof

/-- The parameters of one instance that the spec leaves open or gives a default (R10). They are plain data of the
state (log entry 5), so a statement about every state is a statement about every value of them. N_CLIENTS is
the number of command slots the state holds. -/
structure Params where
  /-- P_CLK_HZ, the peripheral base clock in Hz. -/
  pClkHz : BitVec 32
  /-- FIFO_DEPTH, the entries of each FIFO. -/
  fifoDepth : Nat
  /-- INFLIGHT_LIMIT; `none` is UNBOUNDED. -/
  inflightLimit : Option Nat
  /-- CS_ACTIVE_LOW, the electrical level of an asserted chip select. -/
  csActiveLow : Bool
  /-- BASE_ADDR, the base address of the register block. Its width of 32 bits is a DESIGN CHOICE: the spec gives none
  (log entry 22). -/
  baseAddr : BitVec 32
deriving DecidableEq, Repr, Inhabited

/-- The step that an agent takes next, with what the environment supplies to it. One constructor per kind of step
of R154 (and one for the owner of system memory, R46). -/
inductive Turn where
  /-- HOST issues a BUS transaction (R76). -/
  | host (r : BusRequest)
  /-- CLIENT[k] issues a command (R71). -/
  | client (k : Nat) (c : CmdRequest)
  /-- CLIENT[k] polls the busy flag for its RELEASE (R150). -/
  | relWait (k : Nat)
  /-- SEQ takes the acquire step and chooses the waiting client k (R118). -/
  | acquire (k : Nat)
  /-- SEQ takes its one enabled state step (R139). -/
  | seq
  /-- SER starts a frame (R134). -/
  | frameStart
  /-- SER completes a frame; `miso` is the byte SLAVE drives on data-in (R135). -/
  | frameDone (miso : Byte)
  /-- SER sets RTRIS (R137). -/
  | timeoutSet
  /-- SER clears RTRIS (R137). -/
  | timeoutClear
  /-- The owner of system memory writes one byte of it (R46, R58). -/
  | memWrite (a : Addr) (v : Byte)
deriving DecidableEq, Repr, Inhabited

namespace Config

/-- FREE VALUE: the step taken when the state's schedule names none. Any agent may move (R154). -/
opaque freeTurn : Nat → Turn

/-- FREE VALUE: the 16-bit draw that a read of DR returns while RXFIFO is empty (R83). -/
opaque freeDr : Nat → Entry

/-- FREE VALUE: the 32-bit draw that a read of ICR returns (R93). -/
opaque freeIcr : Nat → Word

end Config
end Sys2Proof
end

