-- ==== Sys2Proof/Machine/State.lean ====
section
/-! DEFINITION. The state of one controller instance (10_state.md), the reasons a run stops, and the state after
reset (70_reset_and_hazards.md R172). -/
namespace Sys2Proof.Machine

/-- The fault codes of 60_exceptions.md R157, each with the info it records. A step that raises one goes to a next
state whose FAULT field holds it (R156); the step after that answers it as the outcome `fault`. Each is safe: the
run stops where the chip might go on. -/
inductive Fault where
  /-- NOT_CLOCKED, raised by a BUS transaction before INIT (R76); info: the selector. Safe. -/
  | notClockedBus (selector : BitVec 9)
  /-- NOT_CLOCKED, raised by a command other than INIT before INIT (R71); info: the OP. Safe. -/
  | notClockedCmd (op : BitVec 4)
  /-- BUS_WIDTH, raised by decoding a selector with SZ other than 0b10 (R64). Safe. -/
  | busWidth (selector : BitVec 9)
  /-- BUS_UNMAPPED, raised by decoding an offset that selects no register (R64). Safe. -/
  | busUnmapped (selector : BitVec 9)
  /-- HOST_DURING_TRANSFER, raised by a BUS write or a DR read while SEQ runs a command (R76). Safe. -/
  | hostDuringTransfer (selector : BitVec 9)
  /-- RESERVED_COMMAND, raised by decoding an OP of 0x5 or more (R71). Safe. -/
  | reservedCommand (op : BitVec 4)
  /-- COMMAND_WHILE_PENDING, raised by a command of a client whose last one has no result yet (R71). Safe. -/
  | commandWhilePending (k : Nat)
  /-- CONFIGURE_DURING_TRANSFER, raised by CONFIGURE while SEQ runs a command (R115). Safe. -/
  | configureDuringTransfer (k : Nat)
  /-- CONCURRENT_TRANSFER, raised by the acquire step while SEQ runs a command (R118). Safe. -/
  | concurrentTransfer (k : Nat)
  /-- DISABLE_MID_FRAME, raised by a CR1 write that clears SSE during a frame (R80, R112); info: the value. Safe. -/
  | disableMidFrame (value : Word)
  /-- INIT_DURING_TRANSFER, raised by INIT while SEQ runs a command (R151). Safe. -/
  | initDuringTransfer (k : Nat)
deriving DecidableEq, Repr

/-- The refusal reasons of 60_exceptions.md R158, and two of the model's own. A step that refuses for a reason of
R158 goes to a next state whose REFUSED field holds it; the step after that answers it as `refused`. All are safe. -/
inductive Refusal where
  /-- An instruction with no meaning yet; only an arm of exec raises it. Safe. -/
  | notModelled (mnemonic : String)
  /-- CFG_RESERVED, raised by decoding a command whose CFG has a nonzero reserved bit (R71). Safe. -/
  | cfgReserved
  /-- DMA_ENABLE, raised by WR_DMACR with a nonzero value (R96). Safe. -/
  | dmaEnable
  /-- BUFFER_LENGTH, raised by TRANSCEIVE with an overlong buffer set (R148). Safe. -/
  | bufferLength
  /-- UNMODELLED_FRAME, raised by the frame-start step for a format the model does not give (R134, R159). Safe. -/
  | unmodelledFrame
  /-- A command that names a client outside 0..N_CLIENTS-1, which is no agent (R7); raised by the command port as an
  outcome, with no state change (log entry 12). Safe. -/
  | noSuchClient (k : Nat)
deriving DecidableEq, Repr

/-- The result codes of 30_encoding.md R70. -/
inductive ResultCode where
  | ok
  | unsupportedConfig
  | notSupported
deriving DecidableEq, Repr

/-- The stored fields of the register block (10_state.md R19 to R28). Reserved bits have no storage (R18); DR, SR,
MIS, ICR and bits 2 and 3 of RIS have none either (R21, R22, R25 to R27). -/
structure Regs where
  /-- CR0[15:0]: SCR, SPH, SPO, FRF, DSS (R19). -/
  cr0 : BitVec 16
  /-- CR1[3:0]: SOD, MS, SSE, LBM (R20). -/
  cr1 : BitVec 4
  /-- CPSR[7:1]; bit 0 is not stored (R23). -/
  cpsr : BitVec 7
  /-- IMSC[3:0]: TXIM, RXIM, RTIM, RORIM (R24). -/
  imsc : BitVec 4
  /-- RIS.RORRIS (R25). -/
  rorris : Bool
  /-- RIS.RTRIS (R25). -/
  rtris : Bool
  /-- DMACR[2:0]: DMAONERR, TXDMAE, RXDMAE (R28). -/
  dmacr : BitVec 3
deriving DecidableEq, Repr

/-- A RegisterImage: the three register values that fix a transfer's electrical behaviour (R34). -/
structure Image where
  cr0 : Word
  cr1 : Word
  cpsr : Word
deriving DecidableEq, Repr

/-- The serial engine SER (R31). -/
structure Ser where
  /-- 1 while a frame is in progress. -/
  busy : Bool
  /-- The 8-bit frame being sent. -/
  shift : Byte
  /-- CR0, CR1 and CPSR as they were when the frame started. -/
  latched : Image
deriving DecidableEq, Repr

/-- SEQ.state, the position in the controller state machine (R33). -/
inductive SeqState where
  | idle | waitBusy | flush | check | failed | writeCr0 | writeCr1 | writeCpsr
  | select | enable | fill | drain | deselect | finish
deriving DecidableEq, Repr

/-- SEQ.op, the command SEQ runs (R33). -/
inductive SeqOp where
  | none
  | configure
  | transceive
deriving DecidableEq, Repr

/-- The sequencer SEQ (R33). -/
structure Seq where
  state : SeqState
  op : SeqOp
  client : Nat
  cfg : CfgWord
  cand : Image
  tx : BufSet
  rx : BufSet
  txLen : BitVec 32
  rxLen : BitVec 32
  /-- N = max(txLen, rxLen). -/
  n : BitVec 32
  pushed : BitVec 32
  popped : BitVec 32
deriving DecidableEq, Repr

/-- The configuration cache CACHE (R34). -/
structure Cache where
  valid : Bool
  image : Image
deriving DecidableEq, Repr

/-- The exclusivity lock LOCK (R35). -/
inductive Lock where
  | free
  | held (k : Nat)
deriving DecidableEq, Repr

/-- A client's command slot SLOT[k] (R38). -/
inductive Slot where
  | empty
  | waitLock (cfg : CfgWord) (tx rx : BufSet)
  | running
  | relWait
  | done (code : ResultCode)
deriving DecidableEq, Repr

/-- Who wrote a register, in a REGW event (R40). -/
inductive Writer where
  | host
  | seq
deriving DecidableEq, Repr

/-- The events of TRACE (R40). -/
inductive Event where
  | regw (who : Writer) (offset : BitVec 6) (value : Word)
  | cs (level : Bool)
  | frame (mosi miso : Byte) (cr0 cr1 cpsr : Word)
  | overrun (miso : Byte)
  | result (k : Nat) (code : ResultCode)
deriving DecidableEq, Repr

/-- The model's own part of the state: which steps come next, and how many free values have been drawn. The spec
fixes no order between agents (R154), so the order is data that a statement leaves arbitrary (log entry 3). -/
structure Env where
  /-- The steps to come, the next one first; when it is empty the next step is a free value. -/
  schedule : List Turn
  /-- How many free values have been drawn. -/
  draws : Nat
deriving DecidableEq, Repr

/-- The state of one controller instance. -/
structure State where
  /-- The parameters of R10, fixed for the machine: no step writes them. -/
  par : Params
  regs : Regs
  /-- TXFIFO, the oldest entry first (R29). -/
  txFifo : List Entry
  /-- RXFIFO, the oldest entry first (R30). -/
  rxFifo : List Entry
  ser : Ser
  seq : Seq
  cache : Cache
  lock : Lock
  /-- CS.asserted (R36). -/
  cs : Bool
  /-- CLK.enabled (R37). -/
  clk : Bool
  /-- SLOT[0], SLOT[1], ...; the list's length is N_CLIENTS (R38). -/
  slots : List Slot
  /-- FAULT (R39). -/
  fault : Option Fault
  /-- REFUSED (R39). -/
  refused : Option Refusal
  /-- TRACE, the oldest event first (R40). -/
  trace : List Event
  /-- RDATA, the value the last BUS read returned to HOST (R63). -/
  rdata : Word
  /-- System memory (R43, R46): the bytes that are not 0x00, by rising address. -/
  mem : List Host.Cell
  env : Env
deriving DecidableEq, Repr

/-- A register image of zeros. -/
def Image.zero : Image := { cr0 := 0, cr1 := 0, cpsr := 0 }

/-- The parameter values the reset state carries: the spec's defaults for FIFO_DEPTH, INFLIGHT_LIMIT and CS_ACTIVE_LOW
(R10); P_CLK_HZ and BASE_ADDR are OPEN there and are a DESIGN CHOICE of log entry 5. -/
def paramsAtReset : Params :=
  { pClkHz := 16000000, fifoDepth := 8, inflightLimit := some 8, csActiveLow := true, baseAddr := 0 }

/-- The state right after reset (70_reset_and_hazards.md R172) of an instance with the given parameters, N_CLIENTS and
system memory, which R10, R46 and R172 make arguments of the model. The fields the spec leaves unspecified are zero or
ABSENT, RDATA is zero and the schedule empty (log entries 3, 6 and 8: DESIGN CHOICE). -/
def State.initial (par : Params) (clients : Nat) (mem : List Host.Cell) : State :=
  { par := par
    regs := { cr0 := 0, cr1 := 0, cpsr := 0, imsc := 0, rorris := false, rtris := false, dmacr := 0 }
    txFifo := []
    rxFifo := []
    ser := { busy := false, shift := 0, latched := Image.zero }
    seq :=
      { state := .idle, op := .none, client := 0, cfg := 0, cand := Image.zero, tx := none, rx := none,
        txLen := 0, rxLen := 0, n := 0, pushed := 0, popped := 0 }
    cache := { valid := false, image := Image.zero }
    lock := .free
    cs := false
    clk := false
    slots := List.replicate clients .empty
    fault := none
    refused := none
    trace := []
    rdata := 0
    mem := mem
    env := { schedule := [], draws := 0 } }

/-- The state after reset that a run of this model starts from: the spec's default parameters where it has some, and for
the OPEN ones, N_CLIENTS and the initial memory the values of log entries 5 and 7 (DESIGN CHOICE). -/
def State.reset : State := State.initial paramsAtReset 3 []

end Sys2Proof.Machine
end

