-- ==== Sys2Proof/Machine/Ops.lean ====
section
/-! DEFINITION. The named operations over the state: one setter per field, the trace, stopping a run (the shared
operation of every fault and refusal), register reads and writes, the FIFOs, system memory, the command slots, the
lock and the chip select, and free values. -/
namespace Sys2Proof.Machine

/-- What a step answers. -/
abbrev Result := Host.Outcome State Fault Refusal

/-! ## One setter per field -/

def State.setRegs (s : State) (x : Regs) : State := { s with regs := x }
def State.setTxFifo (s : State) (x : List Entry) : State := { s with txFifo := x }
def State.setRxFifo (s : State) (x : List Entry) : State := { s with rxFifo := x }
def State.setSer (s : State) (x : Ser) : State := { s with ser := x }
def State.setSeq (s : State) (x : Seq) : State := { s with seq := x }
def State.setCache (s : State) (x : Cache) : State := { s with cache := x }
def State.setLock (s : State) (x : Lock) : State := { s with lock := x }
def State.setCs (s : State) (x : Bool) : State := { s with cs := x }
def State.setClk (s : State) (x : Bool) : State := { s with clk := x }
def State.setSlots (s : State) (x : List Slot) : State := { s with slots := x }
def State.setFault (s : State) (x : Option Fault) : State := { s with fault := x }
def State.setRefused (s : State) (x : Option Refusal) : State := { s with refused := x }
def State.setTrace (s : State) (x : List Event) : State := { s with trace := x }
def State.setRdata (s : State) (x : Word) : State := { s with rdata := x }
def State.setMem (s : State) (x : List Host.Cell) : State := { s with mem := x }
def State.setEnv (s : State) (x : Env) : State := { s with env := x }

/-- `emit(event)`: the event goes to the end of TRACE (10_state.md R40). -/
def State.emit (s : State) (e : Event) : State := s.setTrace (s.trace ++ [e])

/-! ## Stopping: the one operation behind every fault and refusal

The controller has no trap entry and no trap return (60_exceptions.md R163, R164): a fault saves nothing and goes
nowhere. What it does is R156: FAULT takes the code and info, and nothing else changes. -/

/-- A fault to raise or a refusal to make. -/
inductive Stop where
  | fault (f : Fault)
  | refusal (r : Refusal)
deriving DecidableEq, Repr

/-- `raise Fault(code, info)` (R156) and `refuse(reason)` (R158): one field is set and nothing else changes. -/
def State.halt (s : State) : Stop → State
  | .fault f => s.setFault (some f)
  | .refusal r => s.setRefused (some r)

/-- The outcome of every step after a fault or a refusal: no step of any agent is enabled (R156, R158). -/
def State.halted (s : State) : Option Stop :=
  match s.fault, s.refused with
  | some f, _ => some (.fault f)
  | none, some r => some (.refusal r)
  | none, none => none

/-! ## Registers (10_state.md R17 to R28)

A read gives the whole 32-bit register with its reserved bits 0; a write keeps only the field bits of its value (R18,
30_encoding.md R66). -/

/-- CR0 as it is read (R19). -/
def State.readCr0 (s : State) : Word := s.regs.cr0.setWidth 32

/-- CR1 as it is read (R20). -/
def State.readCr1 (s : State) : Word := s.regs.cr1.setWidth 32

/-- CPSR as it is read: bits 7:1 stored, bit 0 reads 0 (R23). -/
def State.readCpsr (s : State) : Word := (s.regs.cpsr ++ 0#1).setWidth 32

/-- IMSC as it is read (R24). -/
def State.readImsc (s : State) : Word := s.regs.imsc.setWidth 32

/-- DMACR as it is read (R28). -/
def State.readDmacr (s : State) : Word := s.regs.dmacr.setWidth 32

/-- `CR0[15:0] <- v[15:0]`. -/
def State.writeCr0 (s : State) (v : Word) : State := s.setRegs { s.regs with cr0 := v.extractLsb' 0 16 }

/-- `CR1[3:0] <- v[3:0]`. -/
def State.writeCr1 (s : State) (v : Word) : State := s.setRegs { s.regs with cr1 := v.extractLsb' 0 4 }

/-- `CPSR[7:1] <- v[7:1]`. -/
def State.writeCpsr (s : State) (v : Word) : State := s.setRegs { s.regs with cpsr := v.extractLsb' 1 7 }

/-- `IMSC[3:0] <- v[3:0]`. -/
def State.writeImsc (s : State) (v : Word) : State := s.setRegs { s.regs with imsc := v.extractLsb' 0 4 }

/-- `DMACR[2:0] <- v[2:0]`. -/
def State.writeDmacr (s : State) (v : Word) : State := s.setRegs { s.regs with dmacr := v.extractLsb' 0 3 }

/-- `RORRIS <- b`. -/
def State.setRorris (s : State) (b : Bool) : State := s.setRegs { s.regs with rorris := b }

/-- `RTRIS <- b`. -/
def State.setRtris (s : State) (b : Bool) : State := s.setRegs { s.regs with rtris := b }

/-- CR0.DSS, bits 3:0 (R19). -/
def Regs.dss (r : Regs) : BitVec 4 := r.cr0.extractLsb' 0 4

/-- CR0.FRF, bits 5:4 (R19). -/
def Regs.frf (r : Regs) : BitVec 2 := r.cr0.extractLsb' 4 2

/-- CR0.SPO, bit 6 (R19). -/
def Regs.spo (r : Regs) : Bool := r.cr0.getLsbD 6

/-- CR0.SPH, bit 7 (R19). -/
def Regs.sph (r : Regs) : Bool := r.cr0.getLsbD 7

/-- CR0.SCR, bits 15:8 (R19). -/
def Regs.scr (r : Regs) : BitVec 8 := r.cr0.extractLsb' 8 8

/-- CR1.LBM, bit 0 (R20). -/
def Regs.lbm (r : Regs) : Bool := r.cr1.getLsbD 0

/-- CR1.SSE, bit 1: the run bit (R20). -/
def Regs.sse (r : Regs) : Bool := r.cr1.getLsbD 1

/-- CR1.MS, bit 2 (R20). -/
def Regs.ms (r : Regs) : Bool := r.cr1.getLsbD 2

/-- The live CR0, CR1 and CPSR as one image; SER latches it at a frame's start (R31). -/
def State.liveImage (s : State) : Image := { cr0 := s.readCr0, cr1 := s.readCr1, cpsr := s.readCpsr }

/-! ## FIFOs (10_state.md R29, R30) -/

/-- Push at the end of TXFIFO. The caller has checked that there is room. -/
def State.pushTx (s : State) (e : Entry) : State := s.setTxFifo (s.txFifo ++ [e])

/-- Push at the end of RXFIFO. The caller has checked that there is room. -/
def State.pushRx (s : State) (e : Entry) : State := s.setRxFifo (s.rxFifo ++ [e])

/-! ## System memory (20_memory.md R46) -/

/-- What an address that the list does not hold reads as (log entry 7: DESIGN CHOICE). -/
def unlistedByte : Byte := 0

/-- The byte at address `k` of a memory list in canonical form. -/
def memGet : List Host.Cell → Nat → Byte
  | [], _ => unlistedByte
  | (a, v) :: m, k => if k = a then v else if k < a then unlistedByte else memGet m k

/-- The memory list with byte `v` at address `k`; writing the unlisted value removes the entry. -/
def memPut : List Host.Cell → Nat → Byte → List Host.Cell
  | [], k, v => if v = unlistedByte then [] else [(k, v)]
  | (a, w) :: m, k, v =>
    if k < a then if v = unlistedByte then (a, w) :: m else (k, v) :: (a, w) :: m
    else if k = a then if v = unlistedByte then m else (k, v) :: m
    else (a, w) :: memPut m k v

/-- The canonical form from a lower bound on: addresses strictly rise and lie below 2^32, and no entry holds the
unlisted value. -/
def memWfFrom : Nat → List Host.Cell → Bool
  | _, [] => true
  | lo, (a, v) :: m => decide (lo ≤ a) && decide (a < 2 ^ 32) && (v != unlistedByte) && memWfFrom (a + 1) m

/-- The canonical form of a memory list. -/
def memWf (m : List Host.Cell) : Bool := memWfFrom 0 m

/-- `MemRead(addr, 1)` (R46). -/
def State.memRead (s : State) (a : Addr) : Byte := memGet s.mem a.toNat

/-- `MemWrite(addr, 1, v)` (R46). -/
def State.memWrite (s : State) (a : Addr) (v : Byte) : State := s.setMem (memPut s.mem a.toNat v)

/-! ## Command slots, lock and chip select -/

/-- N_CLIENTS (00_scope.md R10). -/
def State.nClients (s : State) : Nat := s.slots.length

/-- SLOT[k]; a client that does not exist holds nothing. -/
def State.slot (s : State) (k : Nat) : Slot := s.slots[k]?.getD .empty

/-- `SLOT[k] <- v` (10_state.md R38). -/
def State.setSlot (s : State) (k : Nat) (v : Slot) : State := s.setSlots (s.slots.set k v)

/-- Whether a slot holds a command with no result yet: it is neither EMPTY nor DONE (30_encoding.md R71). -/
def Slot.pending : Slot → Bool
  | .empty => false
  | .done _ => false
  | .waitLock _ _ _ => true
  | .running => true
  | .relWait => true

/-- `SLOT[k] <- DONE(code); emit(RESULT(k, code))`: a command finishes (R70, R40). -/
def State.finish (s : State) (k : Nat) (code : ResultCode) : State :=
  (s.setSlot k (.done code)).emit (.result k code)

/-- `LOCK <- FREE` (43_transfer_context.md R119). -/
def State.freeLock (s : State) : State := s.setLock .free

/-- Driving chip select: `CS.asserted <- level; emit(CS(level))` (R121, R122). -/
def State.driveCs (s : State) (level : Bool) : State := (s.setCs level).emit (.cs level)

/-- `SEQ.state <- q`. -/
def State.goto (s : State) (q : SeqState) : State := s.setSeq { s.seq with state := q }

/-- Reset of an instance from any of its states (70_reset_and_hazards.md R172): every piece of its state takes its reset
value in one step; its parameters, N_CLIENTS and system memory are not changed by it. The schedule, which is no state of
the controller, goes on. Reset starts a new run, so it is no turn. -/
def State.resetInstance (s : State) : State := (State.initial s.par s.nClients s.mem).setEnv s.env

/-! ## Free values -/

/-- The counter of free values moves on by one, so that the next draw is a fresh value. -/
def State.drawn (s : State) : State := s.setEnv { s.env with draws := s.env.draws + 1 }

end Sys2Proof.Machine
end

