-- ==== Sys2Proof/Machine/Flags.lean ====
section
/-! DEFINITION. Every status flag: the computed bits of SR (10_state.md R22), RIS (R25) and MIS (R26), and the interrupt
output INTR (R32). None has storage but RORRIS and RTRIS. -/
namespace Sys2Proof.Machine

/-- SR.TFE: TXFIFO is empty. -/
def State.tfe (s : State) : Bool := s.txFifo.length == 0

/-- SR.TNF: TXFIFO is not full. -/
def State.tnf (s : State) : Bool := decide (s.txFifo.length < s.par.fifoDepth)

/-- SR.RNE: RXFIFO is not empty. -/
def State.rne (s : State) : Bool := decide (0 < s.rxFifo.length)

/-- SR.RFF: RXFIFO is full. -/
def State.rff (s : State) : Bool := s.rxFifo.length == s.par.fifoDepth

/-- SR.BSY: a frame is in progress or TXFIFO is not empty. -/
def State.bsy (s : State) : Bool := s.ser.busy || decide (0 < s.txFifo.length)

/-- SR as it is read: BSY, RFF, RNE, TNF and TFE from bit 4 down to bit 0 (R22). -/
def State.readSr (s : State) : Word :=
  (BitVec.ofBool s.bsy ++ BitVec.ofBool s.rff ++ BitVec.ofBool s.rne ++ BitVec.ofBool s.tnf ++
    BitVec.ofBool s.tfe).setWidth 32

/-- RIS.RXRIS: RXFIFO is at least half full (R25). -/
def State.rxris (s : State) : Bool := decide (s.par.fifoDepth / 2 ≤ s.rxFifo.length)

/-- RIS.TXRIS: TXFIFO is at most half full, whether or not SSE is set (R25). -/
def State.txris (s : State) : Bool := decide (s.txFifo.length ≤ s.par.fifoDepth / 2)

/-- RIS[3:0]: TXRIS, RXRIS, RTRIS and RORRIS from bit 3 down to bit 0 (R25). -/
def State.ris (s : State) : BitVec 4 :=
  BitVec.ofBool s.txris ++ BitVec.ofBool s.rxris ++ BitVec.ofBool s.regs.rtris ++ BitVec.ofBool s.regs.rorris

/-- RIS as it is read (R25). -/
def State.readRis (s : State) : Word := s.ris.setWidth 32

/-- MIS[3:0] = RIS[3:0] AND IMSC[3:0] (R26). -/
def State.mis (s : State) : BitVec 4 := s.ris &&& s.regs.imsc

/-- MIS as it is read (R26). -/
def State.readMis (s : State) : Word := s.mis.setWidth 32

/-- INTR, the interrupt output: 1 iff MIS[3:0] is not 0 (R32). -/
def State.intr (s : State) : Bool := s.mis != 0

end Sys2Proof.Machine
end

