-- ==== Sys2Proof/Machine/Bus.lean ====
section
/-! DEFINITION. The 20 BUS transactions (40_register_access.md R76 to R96): the checks common to all of them, and one
meaning for each. -/
namespace Sys2Proof.Machine

/-- The checks of R76 that come before a transaction's own rule: the clock, then (the selector being decoded) the
sequencer. A write, and a read of DR, may not come while SEQ runs a command. -/
def busGuard (b : BitVec 9) (s : State) : Option Stop :=
  if s.clk = false then some (.fault (.notClockedBus b))
  else if s.seq.op ≠ .none ∧ (selWrite b = true ∨ b = 0x108) then some (.fault (.hostDuringTransfer b))
  else none

/-- A read transaction with selector `b`: the checks, then its rule. -/
def busRead (b : BitVec 9) (rule : State → State) (s : State) : State :=
  match busGuard b s with
  | some stop => s.halt stop
  | none => rule s

/-- A write transaction with selector `b`: the checks, the write's own check, then the REGW event and its rule. A fault
or a refusal emits no event, since the step that stops makes no other change (60_exceptions.md R156, R158). -/
def busWrite (b : BitVec 9) (wdata : Word) (own : Option Stop) (rule : State → State) (s : State) : State :=
  match busGuard b s with
  | some stop => s.halt stop
  | none =>
    match own with
    | some stop => s.halt stop
    | none => rule (s.emit (.regw .host (selOff b) wdata))

/-- The rule of a write that changes no state (R86, R90, R92). -/
def noChange (s : State) : State := s

/-- Reading DR: the oldest RXFIFO entry, popped; of an empty RXFIFO a free 16-bit value (R83). -/
def popDr (s : State) : State :=
  match s.rxFifo with
  | e :: rest => (s.setRxFifo rest).setRdata (e.setWidth 32)
  | [] => s.drawn.setRdata ((Config.freeDr s.env.draws).setWidth 32)

/-- Writing DR: a push, or nothing when TXFIFO is full (R84). -/
def pushDr (wdata : Word) (s : State) : State :=
  if s.txFifo.length < s.par.fifoDepth then s.pushTx (wdata.extractLsb' 0 16) else s

/-- Reading ICR: a free 32-bit value (R93). -/
def drawIcr (s : State) : State := s.drawn.setRdata (Config.freeIcr s.env.draws)

/-- Writing ICR: each of bits 0 and 1 that is 1 clears its latched interrupt bit (R94). -/
def clearIcr (wdata : Word) (s : State) : State :=
  s.setRegs
    { s.regs with
      rorris := if wdata.getLsbD 0 then false else s.regs.rorris
      rtris := if wdata.getLsbD 1 then false else s.regs.rtris }

/-- The fault of a CR1 write that would clear SSE while a frame is in progress (R80). -/
def cr1Check (wdata : Word) (s : State) : Option Stop :=
  if s.ser.busy = true ∧ s.regs.sse = true ∧ wdata.getLsbD 1 = false then some (.fault (.disableMidFrame wdata)) else none

/-- The refusal of a DMACR write that would enable DMA (R96). -/
def dmaCheck (wdata : Word) : Option Stop :=
  if wdata.extractLsb' 0 3 ≠ 0 then some (.refusal .dmaEnable) else none

/-- RD_CR0 (R77). -/
def execRdCr0 (s : State) : Result := .next (busRead 0x100 (fun t => t.setRdata t.readCr0) s)

/-- WR_CR0 (R78). -/
def execWrCr0 (wdata : Word) (s : State) : Result := .next (busWrite 0x140 wdata none (fun t => t.writeCr0 wdata) s)

/-- RD_CR1 (R79). -/
def execRdCr1 (s : State) : Result := .next (busRead 0x104 (fun t => t.setRdata t.readCr1) s)

/-- WR_CR1 (R80). -/
def execWrCr1 (wdata : Word) (s : State) : Result :=
  .next (busWrite 0x144 wdata (cr1Check wdata s) (fun t => t.writeCr1 wdata) s)

/-- RD_DR (R83). -/
def execRdDr (s : State) : Result := .next (busRead 0x108 popDr s)

/-- WR_DR (R84). -/
def execWrDr (wdata : Word) (s : State) : Result := .next (busWrite 0x148 wdata none (pushDr wdata) s)

/-- RD_SR (R85). -/
def execRdSr (s : State) : Result := .next (busRead 0x10C (fun t => t.setRdata t.readSr) s)

/-- WR_SR (R86). -/
def execWrSr (wdata : Word) (s : State) : Result := .next (busWrite 0x14C wdata none noChange s)

/-- RD_CPSR (R81). -/
def execRdCpsr (s : State) : Result := .next (busRead 0x110 (fun t => t.setRdata t.readCpsr) s)

/-- WR_CPSR (R82). -/
def execWrCpsr (wdata : Word) (s : State) : Result := .next (busWrite 0x150 wdata none (fun t => t.writeCpsr wdata) s)

/-- RD_IMSC (R87). -/
def execRdImsc (s : State) : Result := .next (busRead 0x114 (fun t => t.setRdata t.readImsc) s)

/-- WR_IMSC (R88). -/
def execWrImsc (wdata : Word) (s : State) : Result := .next (busWrite 0x154 wdata none (fun t => t.writeImsc wdata) s)

/-- RD_RIS (R89). -/
def execRdRis (s : State) : Result := .next (busRead 0x118 (fun t => t.setRdata t.readRis) s)

/-- WR_RIS (R90). -/
def execWrRis (wdata : Word) (s : State) : Result := .next (busWrite 0x158 wdata none noChange s)

/-- RD_MIS (R91). -/
def execRdMis (s : State) : Result := .next (busRead 0x11C (fun t => t.setRdata t.readMis) s)

/-- WR_MIS (R92). -/
def execWrMis (wdata : Word) (s : State) : Result := .next (busWrite 0x15C wdata none noChange s)

/-- RD_ICR (R93). -/
def execRdIcr (s : State) : Result := .next (busRead 0x120 drawIcr s)

/-- WR_ICR (R94). -/
def execWrIcr (wdata : Word) (s : State) : Result := .next (busWrite 0x160 wdata none (clearIcr wdata) s)

/-- RD_DMACR (R95). -/
def execRdDmacr (s : State) : Result := .next (busRead 0x124 (fun t => t.setRdata t.readDmacr) s)

/-- WR_DMACR (R96): a value that gets past the check has bits 2:0 zero, so the write stores 0. -/
def execWrDmacr (wdata : Word) (s : State) : Result :=
  .next (busWrite 0x164 wdata (dmaCheck wdata) (fun t => t.writeDmacr wdata) s)

end Sys2Proof.Machine
end

