-- ==== Sys2Proof/Machine/Commands.lean ====
section
/-! DEFINITION. The command port (30_encoding.md R71): the checks common to all commands, the issue step of each
(42_config_cache.md R115, 45_controller_sequencer.md R148 to R152), the RELEASE poll, and what an undecodable request
does. -/
namespace Sys2Proof.Machine

/-- The checks of R71 after decoding, in its order: the clock (INIT is exempt), the client's slot, and the reserved bits
of the CFG operand where the row lists one. -/
def cmdGuard (op : BitVec 4) (k : Nat) (cfg : Option CfgWord) (s : State) : Option Stop :=
  if s.clk = false ∧ op ≠ 0 then some (.fault (.notClockedCmd op))
  else if (s.slot k).pending then some (.fault (.commandWhilePending k))
  else
    match cfg with
    | none => none
    | some c => if cfgReserved c ≠ 0 then some (.refusal .cfgReserved) else none

/-- A command of client `k`: the checks of R71, the command's own issue check, then its issue step. An index that is
no client's is refused by name (log entry 12). -/
def command (op : BitVec 4) (k : Nat) (cfg : Option CfgWord) (own : Option Stop) (issue : State → State) (s : State) :
    Result :=
  if k < s.nClients then
    match cmdGuard op k cfg s with
    | some stop => .next (s.halt stop)
    | none =>
      match own with
      | some stop => .next (s.halt stop)
      | none => .next (issue s)
  else .refused (.noSuchClient k)

/-- A command's own check that SEQ runs no other command. -/
def seqBusyCheck (f : Fault) (s : State) : Option Stop := if s.seq.op = .none then none else some (.fault f)

/-- TRANSCEIVE's own check of its buffer sets' lengths (R148, 43_transfer_context.md R123). -/
def lengthCheck (tx rx : BufSet) : Option Stop :=
  if 2 ^ 32 ≤ bufLen tx ∨ 2 ^ 32 ≤ bufLen rx then some (.refusal .bufferLength) else none

/-- INIT's issue step: the clock on, the lock free, and the result (R151). -/
def issueInit (k : Nat) (s : State) : State := ((s.setClk true).freeLock).finish k .ok

/-- CONFIGURE's issue step: SEQ starts at CHECK (R115). -/
def issueConfigure (k : Nat) (cfg : CfgWord) (s : State) : State :=
  (s.setSeq { s.seq with op := .configure, client := k, cfg := cfg, state := .check }).setSlot k .running

/-- INIT (R151). -/
def execInit (k : Nat) (s : State) : Result :=
  command 0x0 k none (seqBusyCheck (.initDuringTransfer k) s) (issueInit k) s

/-- CONFIGURE (R115). -/
def execConfigure (k : Nat) (cfg : CfgWord) (s : State) : Result :=
  command 0x1 k (some cfg) (seqBusyCheck (.configureDuringTransfer k) s) (issueConfigure k cfg) s

/-- TRANSCEIVE (R148): the client waits for the lock with its operands. -/
def execTransceive (k : Nat) (cfg : CfgWord) (tx rx : BufSet) (s : State) : Result :=
  command 0x2 k (some cfg) (lengthCheck tx rx) (fun t => t.setSlot k (.waitLock cfg tx rx)) s

/-- RELEASE (R149): the client polls the busy flag from then on. -/
def execRelease (k : Nat) (cfg : CfgWord) (s : State) : Result :=
  command 0x3 k (some cfg) none (fun t => t.setSlot k .relWait) s

/-- TRANSCEIVE_ASYNC (R152): the not-supported stub. Its buffer sets are not used. -/
def execTransceiveAsync (k : Nat) (cfg : CfgWord) (_tx _rx : BufSet) (s : State) : Result :=
  command 0x4 k (some cfg) none (fun t => t.finish k .notSupported) s

/-- The REL_WAIT step of client `k`, enabled while its slot is REL_WAIT: with the busy flag clear the lock is freed,
whoever holds it, and the client gets OK (R150). -/
def relWaitStep (k : Nat) (s : State) : State :=
  match s.slot k with
  | .relWait => if s.bsy then s else s.freeLock.finish k .ok
  | _ => s

/-- A request that is no instruction: the clock check comes first (R64, R71, R76), then the decode fault. -/
def rejectRequest (e : DecodeError) (s : State) : Result :=
  match e with
  | .busWidth b => .next (s.halt (.fault (if s.clk then .busWidth b else .notClockedBus b)))
  | .busUnmapped b => .next (s.halt (.fault (if s.clk then .busUnmapped b else .notClockedBus b)))
  | .reservedCommand k op =>
    if k < s.nClients then .next (s.halt (.fault (if s.clk then .reservedCommand op else .notClockedCmd op)))
    else .refused (.noSuchClient k)

end Sys2Proof.Machine
end

