-- ==== Sys2Proof/Machine/Dispatch.lean ====
section
/-! DEFINITION. One arm per instruction: its meaning. -/
namespace Sys2Proof.Machine

def exec (i : Instr) (s : State) : Host.Outcome State Fault Refusal :=
  match i with
  | .rdCr0 => Sys2Proof.Machine.execRdCr0 s
  | .wrCr0 wdata => Sys2Proof.Machine.execWrCr0 wdata s
  | .rdCr1 => Sys2Proof.Machine.execRdCr1 s
  | .wrCr1 wdata => Sys2Proof.Machine.execWrCr1 wdata s
  | .rdDr => Sys2Proof.Machine.execRdDr s
  | .wrDr wdata => Sys2Proof.Machine.execWrDr wdata s
  | .rdSr => Sys2Proof.Machine.execRdSr s
  | .wrSr wdata => Sys2Proof.Machine.execWrSr wdata s
  | .rdCpsr => Sys2Proof.Machine.execRdCpsr s
  | .wrCpsr wdata => Sys2Proof.Machine.execWrCpsr wdata s
  | .rdImsc => Sys2Proof.Machine.execRdImsc s
  | .wrImsc wdata => Sys2Proof.Machine.execWrImsc wdata s
  | .rdRis => Sys2Proof.Machine.execRdRis s
  | .wrRis wdata => Sys2Proof.Machine.execWrRis wdata s
  | .rdMis => Sys2Proof.Machine.execRdMis s
  | .wrMis wdata => Sys2Proof.Machine.execWrMis wdata s
  | .rdIcr => Sys2Proof.Machine.execRdIcr s
  | .wrIcr wdata => Sys2Proof.Machine.execWrIcr wdata s
  | .rdDmacr => Sys2Proof.Machine.execRdDmacr s
  | .wrDmacr wdata => Sys2Proof.Machine.execWrDmacr wdata s
  | .init k => Sys2Proof.Machine.execInit k s
  | .configure k cfg => Sys2Proof.Machine.execConfigure k cfg s
  | .transceive k cfg tx rx => Sys2Proof.Machine.execTransceive k cfg tx rx s
  | .release k cfg => Sys2Proof.Machine.execRelease k cfg s
  | .transceiveAsync k cfg tx rx => Sys2Proof.Machine.execTransceiveAsync k cfg tx rx s

end Sys2Proof.Machine
end

