-- ==== Sys2Proof/Machine/Schedule.lean ====
section
/-! DEFINITION. Which step comes next (45_controller_sequencer.md R154): the head of the state's schedule, or a free value
when the schedule is empty; and the step of the owner of system memory (20_memory.md R46, R58). -/
namespace Sys2Proof.Machine

/-- The turn on which a request arrives. -/
def requestTurn : Request → Turn
  | .bus r => .host r
  | .cmd k c => .client k c

/-- The step that comes next. -/
def State.nextTurn (s : State) : Turn :=
  match s.env.schedule with
  | t :: _ => t
  | [] => Config.freeTurn s.env.draws

/-- The state once the next step has been chosen: the schedule loses its head, or the counter of free values moves on. -/
def State.turnTaken (s : State) : State :=
  match s.env.schedule with
  | _ :: ts => s.setEnv { s.env with schedule := ts }
  | [] => s.drawn

/-- Whether a byte lies in a buffer of an outstanding TRANSCEIVE, from its issue to its result: one waiting for the
lock, or the one SEQ runs (R58). -/
def State.inUse (s : State) (a : Addr) : Bool :=
  (decide (s.seq.op = .transceive) && (bufCovers s.seq.tx a || bufCovers s.seq.rx a)) ||
    s.slots.any (fun x =>
      match x with
      | .waitLock _ tx rx => bufCovers tx a || bufCovers rx a
      | _ => false)

/-- The owner of system memory writes a byte; not enabled on a byte of an outstanding TRANSCEIVE's buffers, since no
run that does so is described (R58, log entry 11). -/
def memWriteStep (a : Addr) (v : Byte) (s : State) : State := if s.inUse a then s else s.memWrite a v

end Sys2Proof.Machine
end

