-- ==== Sys2Proof/Machine/Resolver.lean ====
section
/-! DEFINITION. The clock-rate resolver RESOLVE (41_clock_resolver.md R99, R100): a pure function of the peripheral clock
and the requested frequency, in exact unsigned integers (R101). -/
namespace Sys2Proof.Machine

/-- The divisor of a pair: prescaler * (scr + 1) (R98). -/
def divisor (prescaler scr : Nat) : Nat := prescaler * (scr + 1)

/-- The inner scan of R100 over `fuel` values of scr from `scr` on: the first with `f >= P / d`. -/
def scanScr (p f prescaler : Nat) : Nat → Nat → Option Nat
  | 0, _ => none
  | fuel + 1, scr =>
    if p / divisor prescaler scr ≤ f then some scr else scanScr p f prescaler fuel (scr + 1)

/-- The outer scan of R100 over `fuel` even prescalers from `prescaler` on; past the last one the fallback. -/
def scanPrescaler (p f : Nat) : Nat → Nat → Nat × Nat
  | 0, _ => (254, 255)
  | fuel + 1, prescaler =>
    match scanScr p f prescaler 256 0 with
    | some scr => (prescaler, scr)
    | none => scanPrescaler p f fuel (prescaler + 2)

/-- RESOLVE(P, f): prescalers 2, 4, ..., 254 and, for each, scr 0, 1, ..., 255 (R100). -/
def resolve (p f : Nat) : Nat × Nat := scanPrescaler p f 127 2

end Sys2Proof.Machine
end

