-- ==== Sys2Proof/Machine/Cache.lean ====
section
/-! DEFINITION. The configuration cache's SEQ steps: CHECK, WRITE_CR0, WRITE_CR1 and WRITE_CPSR (42_config_cache.md R108
to R113). -/
namespace Sys2Proof.Machine

/-- Whether CHECK rejects a configuration: slave mode, or a word size other than 8 (R108). -/
def cfgRejected (cfg : CfgWord) : Bool := cfgSlave cfg || cfgWs cfg != 8

/-- The candidate image of a configuration at peripheral clock `p`, built from zero (R109). -/
def candidate (p : BitVec 32) (cfg : CfgWord) : Image :=
  let pair := resolve p.toNat (cfgFreq cfg).toNat
  { cr0 := (BitVec.ofNat 8 pair.2 ++ BitVec.ofBool (cfgCpha cfg) ++ BitVec.ofBool (cfgCpol cfg) ++ 0#2 ++ 7#4).setWidth 32
    cr1 := (0#1 ++ 0#1 ++ 0#1 ++ BitVec.ofBool (cfgLoop cfg)).setWidth 32
    cpsr := (BitVec.ofNat 8 pair.1).setWidth 32 }

/-- Where SEQ goes once the configuration is in place: on to the transfer, or to the end of a CONFIGURE (R110, R113).
SEQ runs a command in every state this is used in, so NONE takes the CONFIGURE way. -/
def afterConfig : SeqOp → SeqState
  | .transceive => .select
  | .configure => .finish
  | .none => .finish

/-- The CHECK step: reject (R108), or build the candidate (R109) and compare it with the cached image (R110). -/
def checkStep (s : State) : State :=
  if cfgRejected s.seq.cfg then s.goto .failed
  else
    let cand := candidate s.par.pClkHz s.seq.cfg
    let s1 := s.setSeq { s.seq with cand := cand }
    if s.cache.valid = true ∧ s.cache.image = cand then s1.goto (afterConfig s.seq.op) else s1.goto .writeCr0

/-- The WRITE_CR0 step (R111). -/
def writeCr0Step (s : State) : State :=
  ((s.writeCr0 s.seq.cand.cr0).emit (.regw .seq 0x00 s.seq.cand.cr0)).goto .writeCr1

/-- The WRITE_CR1 step: a fault while a frame is in progress and SSE is set, else the write, which clears SSE (R112). -/
def writeCr1Step (s : State) : State :=
  if s.ser.busy = true ∧ s.regs.sse = true then s.halt (.fault (.disableMidFrame s.seq.cand.cr1))
  else ((s.writeCr1 s.seq.cand.cr1).emit (.regw .seq 0x04 s.seq.cand.cr1)).goto .writeCpsr

/-- The WRITE_CPSR step: the third write, then the cache takes the candidate (R113). -/
def writeCpsrStep (s : State) : State :=
  (((s.writeCpsr s.seq.cand.cpsr).emit (.regw .seq 0x10 s.seq.cand.cpsr)).setCache
    { valid := true, image := s.seq.cand }).goto (afterConfig s.seq.op)

end Sys2Proof.Machine
end

