-- ==== Sys2Proof/Machine/Transfer.lean ====
section
/-! DEFINITION. The transfer context: acquiring the lock, the transmit byte and the storing of a received byte
(43_transfer_context.md R118, R125, R126). -/
namespace Sys2Proof.Machine

/-- DUMMY_BYTE (00_scope.md R10). -/
def dummyByte : Byte := 0x00

/-- The transfer context that an acquire step sets up for client `k` (R118, R116). -/
def startTransfer (s : State) (k : Nat) (cfg : CfgWord) (tx rx : BufSet) : State :=
  let txLen := BitVec.ofNat 32 (bufLen tx)
  let rxLen := BitVec.ofNat 32 (bufLen rx)
  ((s.setLock (.held k)).setSeq
    { s.seq with
      op := .transceive, client := k, cfg := cfg, tx := tx, rx := rx, txLen := txLen, rxLen := rxLen,
      n := if txLen ≤ rxLen then rxLen else txLen, pushed := 0, popped := 0, state := .waitBusy }).setSlot k .running

/-- The acquire step for client `k`, enabled when the lock is FREE and `k` waits for it; testing and taking the lock
are one step (R118, 20_memory.md R60). Where it is not enabled nothing happens. -/
def acquireStep (k : Nat) (s : State) : State :=
  match s.lock, s.slot k with
  | .free, .waitLock cfg tx rx =>
    if s.seq.op = .none then startTransfer s k cfg tx rx else s.halt (.fault (.concurrentTransfer k))
  | _, _ => s

/-- TXBYTE(i): the i-th transmit byte, or DUMMY_BYTE past the set's end or without one (R125). -/
def txByte (s : State) (i : BitVec 32) : Byte :=
  if i < s.seq.txLen then
    match bufAddr s.seq.tx i.toNat with
    | some a => s.memRead a
    | none => dummyByte
  else dummyByte

/-- RX_STORE(i, v): the received byte of unit i goes to its buffer byte, or is discarded (R126). -/
def rxStore (s : State) (i : BitVec 32) (v : Byte) : State :=
  if i < s.seq.rxLen then
    match bufAddr s.seq.rx i.toNat with
    | some a => s.memWrite a v
    | none => s
  else s

end Sys2Proof.Machine
end

