-- ==== Sys2Proof/Machine/Pump.lean ====
section
/-! DEFINITION. The FIFO pump's SEQ steps FILL and DRAIN (44_pump_engine.md R127, R128). -/
namespace Sys2Proof.Machine

/-- Whether one more unit may be in flight: `pushed - popped < INFLIGHT_LIMIT`, always so when it is UNBOUNDED (R127). -/
def inflightOk (s : State) : Bool :=
  match s.par.inflightLimit with
  | none => true
  | some limit => decide ((s.seq.pushed - s.seq.popped).toNat < limit)

/-- The condition under which a FILL step pushes a unit (R127). -/
def fillReady (s : State) : Bool :=
  decide (s.seq.pushed < s.seq.n) && s.tnf && !s.rff && inflightOk s

/-- Pushing one unit: the next transmit byte goes into TXFIFO and the transmit cursor moves on (R127). -/
def pushUnit (s : State) : State :=
  (s.pushTx ((txByte s s.seq.pushed).setWidth 16)).setSeq { s.seq with pushed := s.seq.pushed + 1 }

/-- The FILL step: at most one push, then DRAIN (R127). -/
def fillStep (s : State) : State :=
  (if fillReady s then pushUnit s else s).goto .drain

/-- The DRAIN step: pop and store one unit, or go on to DESELECT or back to FILL (R128, R129). -/
def drainStep (s : State) : State :=
  match s.rxFifo with
  | e :: rest =>
    let s1 := rxStore (s.setRxFifo rest) s.seq.popped (e.setWidth 8)
    s1.setSeq { s1.seq with popped := s.seq.popped + 1 }
  | [] =>
    if s.seq.pushed = s.seq.n ∧ s.seq.popped = s.seq.n then s.goto .deselect else s.goto .fill

end Sys2Proof.Machine
end

