-- ==== Sys2Proof/Machine/Sequencer.lean ====
section
/-! DEFINITION. The controller sequencer: its state steps and their dispatch (45_controller_sequencer.md R139 to R147). -/
namespace Sys2Proof.Machine

/-- The WAIT_BUSY step (R141). -/
def waitBusyStep (s : State) : State := if s.bsy then s else s.goto .flush

/-- The FLUSH step: discard one RXFIFO entry, or go on to CHECK; no REGW event (R142). -/
def flushStep (s : State) : State :=
  match s.rxFifo with
  | _ :: rest => s.setRxFifo rest
  | [] => s.goto .check

/-- The end of the command SEQ runs: a TRANSCEIVE frees the lock, the client gets the result, SEQ becomes idle (R143,
R147). -/
def endCommand (code : ResultCode) (s : State) : State :=
  let s1 := if s.seq.op = .transceive then s.freeLock else s
  (s1.finish s.seq.client code).setSeq { s.seq with op := .none, state := .idle }

/-- The FAILED step (R143). -/
def failedStep (s : State) : State := endCommand .unsupportedConfig s

/-- The SELECT step: assert chip select (R144, R121). -/
def selectStep (s : State) : State := (s.driveCs true).goto .enable

/-- The ENABLE step: one read-modify-write of CR1 that sets SSE (R145). -/
def enableStep (s : State) : State :=
  let v := s.readCr1 ||| 0x00000002
  ((s.writeCr1 v).emit (.regw .seq 0x04 v)).goto .fill

/-- The DESELECT step: deassert chip select (R146, R122). -/
def deselectStep (s : State) : State := (s.driveCs false).goto .finish

/-- The FINISH step (R147). -/
def finishStep (s : State) : State := endCommand .ok s

/-- SEQ's one enabled state step; in IDLE there is none (R139). -/
def seqStep (s : State) : State :=
  match s.seq.state with
  | .idle => s
  | .waitBusy => waitBusyStep s
  | .flush => flushStep s
  | .check => checkStep s
  | .failed => failedStep s
  | .writeCr0 => writeCr0Step s
  | .writeCr1 => writeCr1Step s
  | .writeCpsr => writeCpsrStep s
  | .select => selectStep s
  | .enable => enableStep s
  | .fill => fillStep s
  | .drain => drainStep s
  | .deselect => deselectStep s
  | .finish => finishStep s

end Sys2Proof.Machine
end

