-- ==== Sys2Proof/Machine/Serial.lean ====
section
/-! DEFINITION. The serial engine's steps: frame start, frame completion with overrun, and the receive-timeout draws
(44_pump_engine.md R134 to R137). Where a step is not enabled nothing happens. -/
namespace Sys2Proof.Machine

/-- Whether the live registers ask for a frame this model gives no meaning (60_exceptions.md R159). -/
def unmodelledFrame (r : Regs) : Bool := r.dss != 7 || r.frf != 0 || r.ms || r.cpsr == 0

/-- Whether the frame-start step is enabled, but for a frame to send (R134). -/
def frameEnabled (s : State) : Bool := s.clk && s.regs.sse && !s.ser.busy

/-- The frame-start step: the oldest TXFIFO entry goes into the shifter and the live registers are latched (R134). -/
def frameStartStep (s : State) : State :=
  match s.txFifo with
  | [] => s
  | e :: rest =>
    if frameEnabled s then
      if unmodelledFrame s.regs then s.halt (.refusal .unmodelledFrame)
      else (s.setTxFifo rest).setSer { busy := true, shift := e.setWidth 8, latched := s.liveImage }
    else s

/-- The byte a completing frame receives: the byte sent in internal loopback, else the byte on data-in (R135). -/
def frameMiso (s : State) (dataIn : Byte) : Byte :=
  if s.ser.latched.cr1.getLsbD 0 then s.ser.shift else dataIn

/-- Where a completed frame's byte goes: into RXFIFO, or lost with RORRIS set and an OVERRUN event (R135, R136). -/
def receive (s : State) (miso : Byte) : State :=
  if s.rxFifo.length < s.par.fifoDepth then s.pushRx (miso.setWidth 16)
  else (s.setRorris true).emit (.overrun miso)

/-- The frame-completion step; `dataIn` is the byte SLAVE drives on data-in (R135). -/
def frameDoneStep (dataIn : Byte) (s : State) : State :=
  if s.ser.busy then
    let miso := frameMiso s dataIn
    (receive (s.emit (.frame s.ser.shift miso s.ser.latched.cr0 s.ser.latched.cr1 s.ser.latched.cpsr)) miso).setSer
      { s.ser with busy := false }
  else s

/-- The step that sets RTRIS, enabled while RXFIFO holds data and no frame is in progress (R137). -/
def timeoutSetStep (s : State) : State :=
  if 0 < s.rxFifo.length ∧ s.ser.busy = false then s.setRtris true else s

/-- The step that clears RTRIS, enabled while RXFIFO is empty (R137). -/
def timeoutClearStep (s : State) : State :=
  if s.rxFifo.length = 0 then s.setRtris false else s

end Sys2Proof.Machine
end

