-- ==== Sys2Proof/Machine/Step.lean ====
section
/-! DEFINITION. One step of the machine: one atomic step of one agent (00_scope.md R13, 45_controller_sequencer.md R154),
or the outcome of a run that has stopped (60_exceptions.md R156, R158). -/
namespace Sys2Proof.Machine

/-- A request is decoded and executed in the same step (R71, R76). -/
def runRequest (r : Request) (s : State) : Host.Outcome State Fault Refusal :=
  match decode r with
  | .ok i => exec i s
  | .error e => rejectRequest e s

/-- The step a turn names. -/
def runTurn (t : Turn) (s : State) : Host.Outcome State Fault Refusal :=
  match t with
  | .host r => runRequest (.bus r) s
  | .client k c => runRequest (.cmd k c) s
  | .relWait k => .next (relWaitStep k s)
  | .acquire k => .next (acquireStep k s)
  | .seq => .next (seqStep s)
  | .frameStart => .next (frameStartStep s)
  | .frameDone miso => .next (frameDoneStep miso s)
  | .timeoutSet => .next (timeoutSetStep s)
  | .timeoutClear => .next (timeoutClearStep s)
  | .memWrite a v => .next (memWriteStep a v s)

/-- One step. -/
def step (s : State) : Host.Outcome State Fault Refusal :=
  match s.halted with
  | some (.fault f) => .fault f
  | some (.refusal r) => .refused r
  | none => runTurn s.nextTurn s.turnTaken

/-- The state with the request of an opcode-table word as the next turn (log entries 4 and 13); unchanged where the
bits are no request. -/
def State.withFetchWord (s : State) (nbits w : Nat) : State :=
  match tableRequest nbits w with
  | some r => { s with env := { s.env with schedule := requestTurn r :: s.env.schedule } }
  | none => s

end Sys2Proof.Machine
end

