-- ==== Sys2Proof/Machine/Outputs.lean ====
section
/-! DEFINITION. What the pins show, as functions of the state: the chip-select level, the divided clock, and the
waveform of a frame at the level of bits; and the numbers of the result and fault codes. No step reads any of it
(41_clock_resolver.md R97, 44_pump_engine.md R138, log entry 15). -/
namespace Sys2Proof.Machine

/-- The electrical level of the chip-select pin (10_state.md R36). -/
def State.csPin (s : State) : Bool := if s.par.csActiveLow then !s.cs else s.cs

/-- The bus address of the register at an offset (60_exceptions.md R168), modulo 2^32 (log entry 22: DESIGN CHOICE). -/
def State.registerAddress (s : State) (off : BitVec 6) : BitVec 32 := s.par.baseAddr + off.setWidth 32

/-- CPSDVSR as a number, by the image latched for the frame (R97). -/
def Image.prescaler (i : Image) : Nat := (i.cpsr.extractLsb' 0 8).toNat

/-- SCR as a number, by the image latched for the frame (R97). -/
def Image.scr (i : Image) : Nat := (i.cr0.extractLsb' 8 8).toNat

/-- One SCK period in periods of P (R97). -/
def Image.sckPeriod (i : Image) : Nat := divisor i.prescaler i.scr

/-- An 8-bit frame in periods of P (R97, 70_reset_and_hazards.md R182). -/
def Image.framePeriod (i : Image) : Nat := 8 * i.sckPeriod

/-- The bits of a frame in the order they are on the line, the most significant first (20_memory.md R48). -/
def lineBits (b : Byte) : List Bool := [b.getLsbD 7, b.getLsbD 6, b.getLsbD 5, b.getLsbD 4, b.getLsbD 3, b.getLsbD 2,
  b.getLsbD 1, b.getLsbD 0]

/-- SPO of an image: the level at which SCK rests. -/
def Image.spo (i : Image) : Bool := i.cr0.getLsbD 6

/-- SPH of an image. -/
def Image.sph (i : Image) : Bool := i.cr0.getLsbD 7

/-- The level at which SCK rests: the live SPO between frames, and the SPO latched at the frame's start during one
(R138, 20_memory.md R61). -/
def State.sckRest (s : State) : Bool := if s.ser.busy then s.ser.latched.spo else s.regs.spo

/-- The clock edge of a bit, leading or trailing. -/
inductive Edge where
  | leading
  | trailing
deriving DecidableEq, Repr

/-- The edge on which data is sampled in a frame sent with an image: the leading one with SPH = 0, else the trailing one
(R138). -/
def Image.sampleEdge (i : Image) : Edge := if i.sph then .trailing else .leading

/-- The edge on which data changes in a frame sent with an image: the other one (R138). -/
def Image.changeEdge (i : Image) : Edge := if i.sph then .leading else .trailing

/-- The sampling edge of the frame in progress, by the values latched at its start, so that no write of CR0 changes it
(20_memory.md R61). -/
def State.frameSampleEdge (s : State) : Edge := s.ser.latched.sampleEdge

/-- The changing edge of the frame in progress, by the values latched at its start. -/
def State.frameChangeEdge (s : State) : Edge := s.ser.latched.changeEdge

/-- The number of a result code (30_encoding.md R70). -/
def ResultCode.number : ResultCode → Nat
  | .ok => 0
  | .unsupportedConfig => 1
  | .notSupported => 2

/-- The number of a fault code (60_exceptions.md R157). -/
def Fault.number : Fault → Nat
  | .notClockedBus _ => 1
  | .notClockedCmd _ => 1
  | .busWidth _ => 2
  | .busUnmapped _ => 3
  | .hostDuringTransfer _ => 4
  | .reservedCommand _ => 5
  | .commandWhilePending _ => 6
  | .configureDuringTransfer _ => 7
  | .concurrentTransfer _ => 8
  | .disableMidFrame _ => 9
  | .initDuringTransfer _ => 10

end Sys2Proof.Machine
end

