-- ==== Sys2Proof/WellFormed.lean ====
section
/-! DEFINITION. Well-formed instructions: a command's CFG has its reserved bits 0 (30_encoding.md R68), and a
TRANSCEIVE's buffer sets have a length that fits LEN_BITS (43_transfer_context.md R123). -/
namespace Sys2Proof

/-- CFG bits 31:10 are 0 (R68). -/
def cfgOk (cfg : CfgWord) : Bool := Machine.cfgReserved cfg == 0

/-- LEN(S) fits LEN_BITS = 32 bits (R123). -/
def lengthOk (s : BufSet) : Bool := decide (Machine.bufLen s < 2 ^ 32)

/-- The checks of an instruction's operands. TRANSCEIVE_ASYNC has no length check (R152), and any WDATA is
well-formed (R66). -/
def Instr.wellFormed : Instr → Bool
  | .rdCr0 | .rdCr1 | .rdDr | .rdSr | .rdCpsr | .rdImsc | .rdRis | .rdMis | .rdIcr | .rdDmacr => true
  | .wrCr0 _ | .wrCr1 _ | .wrDr _ | .wrSr _ | .wrCpsr _ | .wrImsc _ | .wrRis _ | .wrMis _ | .wrIcr _
  | .wrDmacr _ => true
  | .init _ => true
  | .configure _ cfg => cfgOk cfg
  | .transceive _ cfg tx rx => cfgOk cfg && lengthOk tx && lengthOk rx
  | .release _ cfg => cfgOk cfg
  | .transceiveAsync _ cfg _ _ => cfgOk cfg

end Sys2Proof
end

