-- ==== Sys2Proof/Safety.lean ====
section
/-! DEFINITION. What a safe run is, in the terms the statements use: running and quiescent states, legal parameters, and
the invariants of the controller. -/
namespace Sys2Proof

/-- The parameter values 00_scope.md R10 admits; N_CLIENTS is bounded by State.parametersLegal. -/
def Params.legal (p : Params) : Prop :=
  2 ≤ p.fifoDepth ∧ ∀ limit, p.inflightLimit = some limit → 1 ≤ limit ∧ limit ≤ p.fifoDepth

/-- INFLIGHT_LIMIT <= FIFO_DEPTH (44_pump_engine.md R130). -/
def Params.inflightWithinDepth (p : Params) : Prop :=
  ∃ limit, p.inflightLimit = some limit ∧ limit ≤ p.fifoDepth

namespace Machine

/-- The parameters of the instance are those R10 admits: the values of its Params, and N_CLIENTS >= 1. -/
def State.parametersLegal (s : State) : Prop := s.par.legal ∧ 1 ≤ s.nClients

/-- No fault and no refusal has stopped the run (60_exceptions.md R156, R158). -/
def State.running (s : State) : Prop := s.fault = none ∧ s.refused = none

/-- Whether a slot is EMPTY or DONE. -/
def Slot.settled (x : Slot) : Bool := !x.pending

/-- A quiescent state (70_reset_and_hazards.md R183). -/
def State.quiescent (s : State) : Prop :=
  s.seq.op = .none ∧ s.seq.state = .idle ∧ s.ser.busy = false ∧ s.slots.all Slot.settled = true ∧ s.fault = none ∧
    s.refused = none

/-- Neither FIFO holds more than FIFO_DEPTH entries (10_state.md R29, R30). -/
def State.fifosBounded (s : State) : Prop :=
  s.txFifo.length ≤ s.par.fifoDepth ∧ s.rxFifo.length ≤ s.par.fifoDepth

/-- With the clock off the controller is as reset left it: everything but RDATA, the stop marks, system memory and the
schedule (60_exceptions.md R170). -/
def State.untouchedUnlessClocked (s : State) : Prop :=
  s.clk = false →
    s.regs = State.reset.regs ∧ s.txFifo = [] ∧ s.rxFifo = [] ∧ s.ser = State.reset.ser ∧ s.seq = State.reset.seq ∧
      s.cache = State.reset.cache ∧ s.lock = .free ∧ s.cs = false ∧ s.trace = [] ∧ ∀ x ∈ s.slots, x = .empty

/-- SEQ is idle exactly when it runs no command, a CONFIGURE stays in its own states, and the client whose command SEQ
runs exists (45_controller_sequencer.md R139, 42_config_cache.md R115). -/
def State.seqConsistent (s : State) : Prop :=
  (s.seq.op = .none ↔ s.seq.state = .idle) ∧
    (s.seq.op = .configure →
      s.seq.state = .check ∨ s.seq.state = .failed ∨ s.seq.state = .writeCr0 ∨ s.seq.state = .writeCr1 ∨
        s.seq.state = .writeCpsr ∨ s.seq.state = .finish) ∧
      (s.seq.op ≠ .none → s.seq.client < s.nClients)

/-- One command at a time: a slot is RUNNING exactly when SEQ runs its client's command, and the lock is held only by
the client whose TRANSCEIVE SEQ runs (43_transfer_context.md R118, R119). -/
def State.exclusive (s : State) : Prop :=
  (∀ k, s.slot k = .running ↔ s.seq.op ≠ .none ∧ s.seq.client = k) ∧
    ∀ k, s.lock = .held k → s.seq.op = .transceive ∧ s.seq.client = k

/-- The chip select that the CS events of a trace end at, from a level on; none when two events in a row set the same
level. -/
def csAfter : Bool → List Event → Option Bool
  | level, [] => some level
  | level, .cs l :: es => if l = level then none else csAfter l es
  | level, .regw _ _ _ :: es => csAfter level es
  | level, .frame _ _ _ _ _ :: es => csAfter level es
  | level, .overrun _ :: es => csAfter level es
  | level, .result _ _ :: es => csAfter level es

/-- The sequencer states in which chip select is asserted. -/
def SeqState.selected : SeqState → Bool
  | .enable | .fill | .drain | .deselect => true
  | .idle | .waitBusy | .flush | .check | .failed | .writeCr0 | .writeCr1 | .writeCpsr | .select | .finish => false

/-- Chip select brackets the pump: it is asserted exactly from SELECT to DESELECT, and the CS events alternate from
deasserted on and end at its level (43_transfer_context.md R120 to R122). -/
def State.csBracketed (s : State) : Prop :=
  (s.seq.op = .none → s.seq.state = .idle) ∧ s.cs = s.seq.state.selected ∧ csAfter false s.trace = some s.cs

/-- How many frames are in the shifter: SER.busy as a number. -/
def State.inShifter (s : State) : Nat := if s.ser.busy then 1 else 0

/-- Nothing is in flight on the serial side: TXFIFO and RXFIFO are empty and SER is idle. -/
def State.drained (s : State) : Prop := s.txFifo = [] ∧ s.rxFifo = [] ∧ s.ser.busy = false

/-- The cursors are at 0. -/
def State.cursorsZero (s : State) : Prop := s.seq.pushed = 0 ∧ s.seq.popped = 0

/-- The units in flight are the units pushed and not yet popped, no more than INFLIGHT_LIMIT, and the cursors lie
within N (44_pump_engine.md R130). -/
def State.inflightAccounted (s : State) : Prop :=
  s.txFifo.length + s.inShifter + s.rxFifo.length + s.seq.popped.toNat = s.seq.pushed.toNat ∧
    s.seq.pushed.toNat ≤ s.seq.n.toNat ∧
      ∀ limit, s.par.inflightLimit = some limit → s.seq.pushed.toNat ≤ s.seq.popped.toNat + limit

/-- The accounting of a TRANSCEIVE, state by state (44_pump_engine.md R130, 45_controller_sequencer.md R141, R142). -/
def State.pumpAccounted (s : State) : Prop :=
  s.seq.op = .transceive →
    match s.seq.state with
    | .waitBusy => s.cursorsZero
    | .flush => s.cursorsZero ∧ s.txFifo = [] ∧ s.ser.busy = false
    | .check | .writeCr0 | .writeCr1 | .writeCpsr | .select | .enable => s.cursorsZero ∧ s.drained
    | .fill | .drain => s.inflightAccounted
    | .deselect | .finish => s.drained ∧ s.seq.pushed = s.seq.n ∧ s.seq.popped = s.seq.n
    | .idle | .failed => True

/-- The image write in progress: while SEQ writes the image it runs a command, the candidate is that of its
configuration, and the registers already written hold it (42_config_cache.md R109, R111, R112). -/
def State.imageInProgress (s : State) : Prop :=
  (s.seq.op = .none → s.seq.state = .idle) ∧
    (s.seq.state = .writeCr0 ∨ s.seq.state = .writeCr1 ∨ s.seq.state = .writeCpsr →
      s.seq.cand = candidate s.par.pClkHz s.seq.cfg) ∧
      (s.seq.state = .writeCr1 ∨ s.seq.state = .writeCpsr → s.readCr0 = s.seq.cand.cr0) ∧
        (s.seq.state = .writeCpsr → s.readCr1 = s.seq.cand.cr1)

/-- The transmit bytes on their way round the loop, the oldest first: those in RXFIFO, in the shifter and in TXFIFO. -/
def State.unitsInFlight (s : State) : List Byte :=
  s.rxFifo.map (fun e => e.setWidth 8) ++ (bif s.ser.busy then [s.ser.shift] else []) ++
    s.txFifo.map (fun e => e.setWidth 8)

/-- During the pump of a loopback transfer the frame in progress is a loopback one, and the units in flight are the
transmit bytes from the receive cursor on (44_pump_engine.md R132). -/
def State.loopbackInOrder (s : State) : Prop :=
  s.seq.op = .transceive → s.seq.state = .fill ∨ s.seq.state = .drain → s.regs.lbm = true →
    (s.ser.busy = true → s.ser.latched.cr1.getLsbD 0 = true) ∧
      ∀ (j : Nat) (b : Byte), s.unitsInFlight[j]? = some b → b = txByte s (s.seq.popped + BitVec.ofNat 32 j)

/-- The buffers of the transfer SEQ runs do not overlap: no byte is both a transmit and a receive byte. -/
def State.buffersDisjoint (s : State) : Prop := ∀ a, bufCovers s.seq.tx a = true → bufCovers s.seq.rx a = false

/-- The memory list is in canonical form. -/
def State.memCanonical (s : State) : Prop := memWf s.mem = true

/-- Every TRANSCEIVE that waits for the lock has buffer sets whose lengths fit LEN_BITS (43_transfer_context.md R123). -/
def State.waitersFit (s : State) : Prop :=
  ∀ k cfg tx rx, s.slot k = .waitLock cfg tx rx → bufLen tx < 2 ^ 32 ∧ bufLen rx < 2 ^ 32

/-- A request carries the words of an instruction: its selector, and WDATA for a write; or its client, its OP and the
operands that the OP's row of 30_encoding.md R67 lists. -/
def carriesWords (r : Request) (i : Instr) : Prop :=
  match r, encode i with
  | .bus a, .bus b => a.selector = b.selector ∧ (selWrite b.selector = true → a.wdata = b.wdata)
  | .cmd k a, .cmd j b =>
    k = j ∧ a.op = b.op ∧ (b.op ≠ 0 → a.cfg = b.cfg) ∧ (b.op = 2 ∨ b.op = 4 → a.tx = b.tx ∧ a.rx = b.rx)
  | _, _ => False

/-- The faults of the checks common to BUS transactions, for instruction `i` with selector `b` (40_register_access.md
R76). -/
def busStops (b : BitVec 9) (i : Instr) (s : State) : Prop :=
  (s.clk = false → exec i s = .next { s with fault := some (.notClockedBus b) }) ∧
    (s.clk = true → s.seq.op ≠ .none → selWrite b = true ∨ b = 0x108 →
      exec i s = .next { s with fault := some (.hostDuringTransfer b) })

/-- The faults and the refusal of the checks common to commands, for instruction `i` with code `op` of client `k` and
its CFG operand, if it has one (30_encoding.md R71). -/
def commandStops (op : BitVec 4) (k : Nat) (cfg : Option CfgWord) (i : Instr) (s : State) : Prop :=
  (s.clk = false → op ≠ 0 → exec i s = .next { s with fault := some (.notClockedCmd op) }) ∧
    (s.clk = true ∨ op = 0 → (s.slot k).pending = true →
      exec i s = .next { s with fault := some (.commandWhilePending k) }) ∧
      (s.clk = true → (s.slot k).pending = false → ∀ c, cfg = some c → cfgReserved c ≠ 0 →
        exec i s = .next { s with refused := some .cfgReserved })

/-! ### Runs and weak fairness (45_controller_sequencer.md R154, 44_pump_engine.md R131)

These speak of infinite sequences of steps, so they are predicates on functions of the step's number; the state itself
stays plain data. -/

/-- The state with a turn placed before its schedule. -/
def State.given (s : State) (u : Turn) : State := { s with env := { s.env with schedule := u :: s.env.schedule } }

/-- A run: at every number the turn of that number is taken, and its step goes to the next state. No state of a run has
stopped, since `step` answers no next state after a fault or a refusal. -/
def IsRun (turn : Nat → Turn) (state : Nat → State) : Prop := ∀ n, step ((state n).given (turn n)) = .next (state (n + 1))

/-- Weak fairness for one kind of step: if it stays enabled from some point on, it is taken at or after that point.
`takes u s` says that turn `u` is that step in state `s`. -/
def WeaklyFair (enabled : State → Prop) (takes : Turn → State → Prop) (turn : Nat → Turn) (state : Nat → State) : Prop :=
  ∀ n, (∀ m, n ≤ m → enabled (state m)) → ∃ m, n ≤ m ∧ takes (turn m) (state m)

/-- SEQ has an enabled state step (45_controller_sequencer.md R139). -/
def State.seqEnabled (s : State) : Prop := s.seq.state ≠ .idle

/-- Client `k` waits for the lock (43_transfer_context.md R117). -/
def State.waits (s : State) (k : Nat) : Prop := ∃ cfg tx rx, s.slot k = .waitLock cfg tx rx

/-- SEQ's acquire step is enabled, in every state of SEQ (43_transfer_context.md R118, 45_controller_sequencer.md R139). -/
def State.acquireEnabled (s : State) : Prop := s.lock = .free ∧ ∃ k, s.waits k

/-- A turn is the acquire step, for a client that waits; any one may be chosen, and no fairness holds between them
(R118). -/
def isAcquire (u : Turn) (s : State) : Prop := ∃ k, u = .acquire k ∧ s.waits k

/-- SER's frame-start step is enabled (44_pump_engine.md R134). -/
def State.frameStartEnabled (s : State) : Prop := frameEnabled s = true ∧ s.txFifo ≠ []

/-- SER's frame-completion step is enabled (44_pump_engine.md R135). -/
def State.frameDoneEnabled (s : State) : Prop := s.ser.busy = true

/-- SER's step that sets RTRIS is enabled (44_pump_engine.md R137). -/
def State.timeoutSetEnabled (s : State) : Prop := s.rxFifo ≠ [] ∧ s.ser.busy = false

/-- SER's step that clears RTRIS is enabled (44_pump_engine.md R137). -/
def State.timeoutClearEnabled (s : State) : Prop := s.rxFifo = []

/-- A turn is the frame completion, with whatever byte on data-in. -/
def isFrameDone (u : Turn) : Prop := ∃ dataIn, u = .frameDone dataIn

/-- The state steps of SEQ are weakly fair. -/
def SeqStateFair (turn : Nat → Turn) (state : Nat → State) : Prop :=
  WeaklyFair State.seqEnabled (fun u _ => u = .seq) turn state

/-- The acquire step of SEQ is weakly fair. -/
def AcquireFair (turn : Nat → Turn) (state : Nat → State) : Prop :=
  WeaklyFair State.acquireEnabled isAcquire turn state

/-- The frame starts and the frame completions of SER are weakly fair. -/
def FrameFair (turn : Nat → Turn) (state : Nat → State) : Prop :=
  WeaklyFair State.frameStartEnabled (fun u _ => u = .frameStart) turn state ∧
    WeaklyFair State.frameDoneEnabled (fun u _ => isFrameDone u) turn state

/-- The two draws of RTRIS are weakly fair. -/
def TimeoutFair (turn : Nat → Turn) (state : Nat → State) : Prop :=
  WeaklyFair State.timeoutSetEnabled (fun u _ => u = .timeoutSet) turn state ∧
    WeaklyFair State.timeoutClearEnabled (fun u _ => u = .timeoutClear) turn state

/-- Weak fairness of SEQ: every one of its steps (R154). -/
def SeqFair (turn : Nat → Turn) (state : Nat → State) : Prop := SeqStateFair turn state ∧ AcquireFair turn state

/-- Weak fairness of SER: every one of its steps (R154). -/
def SerFair (turn : Nat → Turn) (state : Nat → State) : Prop := FrameFair turn state ∧ TimeoutFair turn state

/-- A run that is weakly fair for SEQ and SER, as progress claims assume (R154). -/
def IsFairRun (turn : Nat → Turn) (state : Nat → State) : Prop :=
  IsRun turn state ∧ SeqFair turn state ∧ SerFair turn state

/-- SEQ runs a TRANSCEIVE and is in its pump. -/
def State.inPump (s : State) : Prop := s.seq.op = .transceive ∧ (s.seq.state = .fill ∨ s.seq.state = .drain)

/-- SER can send frames: the clock is on, the run bit is set, and the live registers ask for a legal frame
(44_pump_engine.md R131, R134). -/
def State.canSend (s : State) : Prop := s.clk = true ∧ s.regs.sse = true ∧ unmodelledFrame s.regs = false

/-- The legal pairs of the clock divider (41_clock_resolver.md R99). -/
def legalPair (prescaler scr : Nat) : Prop := prescaler % 2 = 0 ∧ 2 ≤ prescaler ∧ prescaler ≤ 254 ∧ scr ≤ 255

/-- A pair satisfies the bound `f >= P / d` in truncating division (41_clock_resolver.md R100). -/
def meetsBound (p f prescaler scr : Nat) : Prop := p / divisor prescaler scr ≤ f

end Machine
end Sys2Proof
end

