-- ==== Sys2Proof/Certificates/Slice0/Obligations.lean ====
section
/-! DEFINITION. The statements for the provers, from the numbered rules of spec/. -/

open Sys2Proof Sys2Proof.Machine

/-! ## Encoding and decoding -/

/-- Decoding the encoding of any instruction gives it back, with every operand at every value, and a request decodes to an
instruction exactly when it carries that instruction's words (30_encoding.md R63, R65, R67). -/
def Obligations.DecodeInvertsEncode : Prop :=
  ∀ i : Instr, decode (encode i) = .ok i ∧ ∀ r : Request, decode r = .ok i ↔ carriesWords r i

/-- Every 9-bit selector has one outcome, with the clock on: the size is checked first, then the offset (R64). -/
def Obligations.BusSelectorOutcome : Prop :=
  ∀ (r : BusRequest) (s : State), s.clk = true →
    (selSize r.selector ≠ 2 → runRequest (.bus r) s = .next { s with fault := some (.busWidth r.selector) }) ∧
      (selSize r.selector = 2 → (selOff r.selector).toNat % 4 ≠ 0 ∨ 0x28 ≤ (selOff r.selector).toNat →
        runRequest (.bus r) s = .next { s with fault := some (.busUnmapped r.selector) }) ∧
        (selSize r.selector = 2 → (selOff r.selector).toNat % 4 = 0 → (selOff r.selector).toNat < 0x28 →
          ∃ i, decode (.bus r) = .ok i ∧ carriesWords (.bus r) i ∧ runRequest (.bus r) s = exec i s)

/-- A few words of R65 and R67 decode to their instructions. -/
def Obligations.SampleWordsDecode : Prop :=
  decode (.bus { selector := 0b100000100, wdata := 0 }) = .ok .rdCr1 ∧
    decode (.bus { selector := 0b101001000, wdata := 0xA5 }) = .ok (.wrDr 0xA5) ∧
      decode (.bus { selector := 0b100100100, wdata := 7 }) = .ok .rdDmacr ∧
        decode (.cmd 1 { op := 0b0011, cfg := 0x80, tx := none, rx := none }) = .ok (.release 1 0x80) ∧
          decode (.cmd 0 { op := 0b0010, cfg := 0x80, tx := some [⟨0x1000, 3⟩], rx := none }) =
            .ok (.transceive 0 0x80 (some [⟨0x1000, 3⟩]) none)

/-- The order of the checks of a command, up to the issue part of its own rule (R71). -/
def Obligations.CommandCheckOrder : Prop :=
  ∀ (k : Nat) (c : CmdRequest) (s : State), k < s.nClients →
    (s.clk = false → c.op ≠ 0 → runRequest (.cmd k c) s = .next { s with fault := some (.notClockedCmd c.op) }) ∧
      (s.clk = true → 5 ≤ c.op.toNat →
        runRequest (.cmd k c) s = .next { s with fault := some (.reservedCommand c.op) }) ∧
        (s.clk = true ∨ c.op = 0 → c.op.toNat < 5 → (s.slot k).pending = true →
          runRequest (.cmd k c) s = .next { s with fault := some (.commandWhilePending k) }) ∧
          (s.clk = true → 1 ≤ c.op.toNat → c.op.toNat < 5 → (s.slot k).pending = false → cfgReserved c.cfg ≠ 0 →
            runRequest (.cmd k c) s = .next { s with refused := some .cfgReserved }) ∧
            (c.op.toNat < 5 → ∃ i, decode (.cmd k c) = .ok i ∧ carriesWords (.cmd k c) i ∧
              runRequest (.cmd k c) s = exec i s)

/-! ## The step -/

/-- When the next turn is a request that decodes to an instruction, the step is that instruction's meaning, in the state
whose schedule has lost the turn; and withFetchWord places such a turn. -/
def Obligations.StepRunsDecodedInstruction : Prop :=
  (∀ (s : State) (r : Request) (i : Instr) (ts : List Turn), s.running → s.env.schedule = requestTurn r :: ts →
      decode r = .ok i → step s = exec i { s with env := { s.env with schedule := ts } }) ∧
    ∀ (s : State) (nbits w : Nat) (i : Instr), s.running → decodeTableWord nbits w = some i →
      step (s.withFetchWord nbits w) = exec i s

/-- A step that raises a fault changes nothing but FAULT, and one that refuses nothing but REFUSED (and the model's
schedule, which has lost the turn); after a fault or a refusal no step is enabled, so neither mark is ever cleared
(60_exceptions.md R156, R158). -/
def Obligations.StopsArePreciseAndFinal : Prop :=
  (∀ (s t : State) (f : Fault), step s = .next t → t.fault = some f → t = { s.turnTaken with fault := some f }) ∧
    (∀ (s t : State) (r : Refusal), step s = .next t → t.refused = some r →
      t = { s.turnTaken with refused := some r }) ∧
      (∀ (s : State) (f : Fault), s.fault = some f → step s = .fault f) ∧
        ∀ (s : State) (r : Refusal), s.fault = none → s.refused = some r → step s = .refused r

/-! ## Reset -/

/-- The values the spec gives for reset hold of State.reset and of the reset of any instance from any of its states; that
leaves its parameters, N_CLIENTS and system memory as they are (70_reset_and_hazards.md R172, R173). SR reads 0x3 and RIS
0x8 with the FIFO_DEPTH >= 2 of R10. That they do at State.reset, and that its chip-select pin is high, rests on log entry
5: it carries the spec's defaults FIFO_DEPTH = 8 and CS_ACTIVE_LOW = true. -/
def Obligations.ResetValues : Prop :=
  (∀ t : State, (t = State.reset ∨ ∃ s : State, t = s.resetInstance) →
      t.readCr0 = 0 ∧ t.readCr1 = 0 ∧ t.readCpsr = 0 ∧ t.readImsc = 0 ∧ t.readDmacr = 0 ∧ t.regs.rorris = false ∧
        t.regs.rtris = false ∧ t.txFifo = [] ∧ t.rxFifo = [] ∧ t.ser.busy = false ∧ t.ser.shift = 0 ∧
        t.ser.latched = Image.zero ∧ (t.par.legal → t.readSr = 0x3 ∧ t.readRis = 0x8) ∧ t.readMis = 0 ∧
        t.intr = false ∧ t.seq.state = .idle ∧ t.seq.op = .none ∧ t.seq.txLen = 0 ∧ t.seq.rxLen = 0 ∧ t.seq.n = 0 ∧
        t.seq.pushed = 0 ∧ t.seq.popped = 0 ∧ t.cache.valid = false ∧ t.lock = .free ∧ t.cs = false ∧
        t.csPin = t.par.csActiveLow ∧ t.clk = false ∧ (∀ k, t.slot k = .empty) ∧ t.fault = none ∧ t.refused = none ∧
        t.trace = []) ∧
    (∀ s : State, s.resetInstance.par = s.par ∧ s.resetInstance.nClients = s.nClients ∧ s.resetInstance.mem = s.mem) ∧
      State.reset.readSr = 0x3 ∧ State.reset.readRis = 0x8 ∧ State.reset.csPin = true

/-! ## BUS reads -/

/-- RD_CR0, RD_CR1, RD_CPSR and RD_IMSC return their stored fields and change nothing else (40_register_access.md R77, R79,
R81, R87). -/
def Obligations.ReadsReturnStoredFields : Prop :=
  ∀ s : State,
    (s.clk = true →
      exec .rdCr0 s = .next { s with rdata := s.regs.cr0.setWidth 32 } ∧
        exec .rdCr1 s = .next { s with rdata := s.regs.cr1.setWidth 32 } ∧
          exec .rdCpsr s = .next { s with rdata := (s.regs.cpsr ++ 0#1).setWidth 32 } ∧
            exec .rdImsc s = .next { s with rdata := s.regs.imsc.setWidth 32 }) ∧
      busStops 0x100 .rdCr0 s ∧ busStops 0x104 .rdCr1 s ∧ busStops 0x110 .rdCpsr s ∧ busStops 0x114 .rdImsc s

/-- RD_SR returns the five computed status bits and changes nothing else (R85, 10_state.md R22). -/
def Obligations.ReadOfStatus : Prop :=
  ∀ s : State,
    (s.clk = true →
      ∃ v : Word, exec .rdSr s = .next { s with rdata := v } ∧
        (v.getLsbD 0 = true ↔ s.txFifo.length = 0) ∧ (v.getLsbD 1 = true ↔ s.txFifo.length < s.par.fifoDepth) ∧
          (v.getLsbD 2 = true ↔ 0 < s.rxFifo.length) ∧ (v.getLsbD 3 = true ↔ s.rxFifo.length = s.par.fifoDepth) ∧
            (v.getLsbD 4 = true ↔ s.ser.busy = true ∨ 0 < s.txFifo.length) ∧ ∀ i, 5 ≤ i → v.getLsbD i = false) ∧
      busStops 0x10C .rdSr s

/-- RD_RIS returns the four raw interrupt bits and RD_MIS those that IMSC unmasks; neither changes anything else (R89,
R91). -/
def Obligations.ReadsOfInterruptStatus : Prop :=
  ∀ s : State,
    (s.clk = true →
      ∃ v w : Word, exec .rdRis s = .next { s with rdata := v } ∧ exec .rdMis s = .next { s with rdata := w } ∧
        (v.getLsbD 0 = true ↔ s.regs.rorris = true) ∧ (v.getLsbD 1 = true ↔ s.regs.rtris = true) ∧
          (v.getLsbD 2 = true ↔ s.par.fifoDepth / 2 ≤ s.rxFifo.length) ∧
            (v.getLsbD 3 = true ↔ s.txFifo.length ≤ s.par.fifoDepth / 2) ∧ (∀ i, 4 ≤ i → v.getLsbD i = false) ∧
              w = v &&& s.regs.imsc.setWidth 32) ∧
      busStops 0x118 .rdRis s ∧ busStops 0x11C .rdMis s

/-- RD_DR pops the oldest RXFIFO entry; of an empty RXFIFO it returns some 16-bit value and changes no state of the
controller (R83). RD_ICR returns some 32-bit value and changes no state of the controller (R93). Both values are free
ones: nothing is said of them, and the draw counter moves on (log entry 9). -/
def Obligations.ReadsOfDataAndInterruptClear : Prop :=
  ∀ s : State,
    (s.clk = true → s.seq.op = .none →
      (∀ e rest, s.rxFifo = e :: rest → exec .rdDr s = .next { s with rxFifo := rest, rdata := e.setWidth 32 }) ∧
        (s.rxFifo = [] → ∃ d : BitVec 16,
          exec .rdDr s = .next { s with rdata := d.setWidth 32, env := { s.env with draws := s.env.draws + 1 } })) ∧
      (s.clk = true → ∃ d : Word,
        exec .rdIcr s = .next { s with rdata := d, env := { s.env with draws := s.env.draws + 1 } }) ∧
        busStops 0x108 .rdDr s ∧ busStops 0x120 .rdIcr s

/-! ## BUS writes -/

/-- WR_CR0, WR_CPSR and WR_IMSC store the field bits of WDATA, emit their REGW event and change nothing else (R78, R82,
R88). -/
def Obligations.WritesStoreFields : Prop :=
  ∀ (s : State) (w : Word),
    (s.clk = true → s.seq.op = .none →
      exec (.wrCr0 w) s =
          .next { s with regs := { s.regs with cr0 := w.extractLsb' 0 16 }, trace := s.trace ++ [.regw .host 0x00 w] } ∧
        exec (.wrCpsr w) s =
            .next { s with regs := { s.regs with cpsr := w.extractLsb' 1 7 }, trace := s.trace ++ [.regw .host 0x10 w] } ∧
          exec (.wrImsc w) s =
            .next { s with regs := { s.regs with imsc := w.extractLsb' 0 4 }, trace := s.trace ++ [.regw .host 0x14 w] }) ∧
      busStops 0x140 (.wrCr0 w) s ∧ busStops 0x150 (.wrCpsr w) s ∧ busStops 0x154 (.wrImsc w) s

/-- WR_CR1 faults when it would clear SSE during a frame, and otherwise stores its four bits (R80). That the faulting write
emits no REGW event is log entry 20's reading of R156, since R76 lists the event before the write's own rule. -/
def Obligations.WriteOfControl1 : Prop :=
  ∀ (s : State) (w : Word),
    (s.clk = true → s.seq.op = .none →
      (s.ser.busy = true ∧ s.regs.cr1.getLsbD 1 = true ∧ w.getLsbD 1 = false →
        exec (.wrCr1 w) s = .next { s with fault := some (.disableMidFrame w) }) ∧
        (¬ (s.ser.busy = true ∧ s.regs.cr1.getLsbD 1 = true ∧ w.getLsbD 1 = false) →
          exec (.wrCr1 w) s =
            .next { s with regs := { s.regs with cr1 := w.extractLsb' 0 4 }, trace := s.trace ++ [.regw .host 0x04 w] })) ∧
      busStops 0x144 (.wrCr1 w) s

/-- WR_DR pushes WDATA[15:0] into TXFIFO, or is lost when TXFIFO is full; the REGW event is emitted either way (R84). -/
def Obligations.WriteOfData : Prop :=
  ∀ (s : State) (w : Word),
    (s.clk = true → s.seq.op = .none →
      (s.txFifo.length < s.par.fifoDepth →
        exec (.wrDr w) s =
          .next { s with txFifo := s.txFifo ++ [w.extractLsb' 0 16], trace := s.trace ++ [.regw .host 0x08 w] }) ∧
        (s.par.fifoDepth ≤ s.txFifo.length →
          exec (.wrDr w) s = .next { s with trace := s.trace ++ [.regw .host 0x08 w] })) ∧
      busStops 0x148 (.wrDr w) s

/-- WR_SR, WR_RIS and WR_MIS change nothing; their REGW events are still emitted (R86, R90, R92). -/
def Obligations.WritesToReadOnlyIgnored : Prop :=
  ∀ (s : State) (w : Word),
    (s.clk = true → s.seq.op = .none →
      exec (.wrSr w) s = .next { s with trace := s.trace ++ [.regw .host 0x0C w] } ∧
        exec (.wrRis w) s = .next { s with trace := s.trace ++ [.regw .host 0x18 w] } ∧
          exec (.wrMis w) s = .next { s with trace := s.trace ++ [.regw .host 0x1C w] }) ∧
      busStops 0x14C (.wrSr w) s ∧ busStops 0x158 (.wrRis w) s ∧ busStops 0x15C (.wrMis w) s

/-- WR_ICR clears RORRIS when bit 0 of WDATA is 1 and RTRIS when bit 1 is, and nothing else (R94). -/
def Obligations.WriteOfInterruptClear : Prop :=
  ∀ (s : State) (w : Word),
    (s.clk = true → s.seq.op = .none →
      exec (.wrIcr w) s =
        .next
          { s with
            regs :=
              { s.regs with
                rorris := s.regs.rorris && !w.getLsbD 0
                rtris := s.regs.rtris && !w.getLsbD 1 }
            trace := s.trace ++ [.regw .host 0x20 w] }) ∧
      busStops 0x160 (.wrIcr w) s

/-- WR_DMACR refuses a nonzero value of bits 2:0, and otherwise stores 0; RD_DMACR returns the stored bits, and no step
makes them nonzero, so that it returns 0 in every run (R95, R96). That the refused write emits no REGW event is log entry
20's reading of R158. -/
def Obligations.DmaControlStaysZero : Prop :=
  (∀ (s : State) (w : Word),
    (s.clk = true → s.seq.op = .none →
      (w.extractLsb' 0 3 ≠ 0 → exec (.wrDmacr w) s = .next { s with refused := some .dmaEnable }) ∧
        (w.extractLsb' 0 3 = 0 →
          exec (.wrDmacr w) s =
            .next { s with regs := { s.regs with dmacr := 0 }, trace := s.trace ++ [.regw .host 0x24 w] })) ∧
      (s.clk = true → exec .rdDmacr s = .next { s with rdata := s.regs.dmacr.setWidth 32 }) ∧
        busStops 0x124 .rdDmacr s ∧ busStops 0x164 (.wrDmacr w) s) ∧
    ∀ s t : State, s.regs.dmacr = 0 → step s = .next t → t.regs.dmacr = 0

/-- What was written to a control register is read back with its reserved bits 0 (10_state.md R18 to R20, R23, R24). -/
def Obligations.WriteThenReadKeepsFieldBits : Prop :=
  ∀ (s : State) (w : Word), s.clk = true → s.seq.op = .none →
    (∃ t u, exec (.wrCr0 w) s = .next t ∧ exec .rdCr0 t = .next u ∧ u.rdata = w &&& 0x0000FFFF) ∧
      (¬ (s.ser.busy = true ∧ s.regs.cr1.getLsbD 1 = true ∧ w.getLsbD 1 = false) →
        ∃ t u, exec (.wrCr1 w) s = .next t ∧ exec .rdCr1 t = .next u ∧ u.rdata = w &&& 0x0000000F) ∧
        (∃ t u, exec (.wrCpsr w) s = .next t ∧ exec .rdCpsr t = .next u ∧ u.rdata = w &&& 0x000000FE) ∧
          ∃ t u, exec (.wrImsc w) s = .next t ∧ exec .rdImsc t = .next u ∧ u.rdata = w &&& 0x0000000F

/-- A BUS transaction, whatever its selector, is checked in the order of R76: the clock, the decode, the running command.
While SEQ runs a command every write and every read of DR faults, and any other read changes RDATA only (and a read of
ICR the draw counter of log entry 9). -/
def Obligations.HostLeavesRunningCommandAlone : Prop :=
  ∀ (r : BusRequest) (s : State),
    let admitted := selSize r.selector = 2 ∧ (selOff r.selector).toNat % 4 = 0 ∧ (selOff r.selector).toNat < 0x28
    let excluded := selWrite r.selector = true ∨ r.selector = 0x108
    (s.clk = false → runRequest (.bus r) s = .next { s with fault := some (.notClockedBus r.selector) }) ∧
      (s.clk = true → s.seq.op ≠ .none →
        (selSize r.selector ≠ 2 → runRequest (.bus r) s = .next { s with fault := some (.busWidth r.selector) }) ∧
          (selSize r.selector = 2 → ¬ admitted →
            runRequest (.bus r) s = .next { s with fault := some (.busUnmapped r.selector) }) ∧
            (admitted → excluded →
              runRequest (.bus r) s = .next { s with fault := some (.hostDuringTransfer r.selector) }) ∧
              (admitted → ¬ excluded → ∃ v : Word,
                runRequest (.bus r) s =
                  .next
                    { s with
                      rdata := v
                      env :=
                        { s.env with
                          draws := if r.selector = 0x120 then s.env.draws + 1 else s.env.draws } }))

/-! ## Commands -/

/-- INIT turns the clock on, frees the lock and gives OK; it faults while SEQ runs a command (45_controller_sequencer.md
R151). -/
def Obligations.InitEnablesClock : Prop :=
  ∀ (k : Nat) (s : State), k < s.nClients →
    ((s.slot k).pending = false →
      (s.seq.op = .none →
        exec (.init k) s =
          .next
            { s with
              clk := true, lock := .free, slots := s.slots.set k (.done .ok)
              trace := s.trace ++ [.result k .ok] }) ∧
        (s.seq.op ≠ .none → exec (.init k) s = .next { s with fault := some (.initDuringTransfer k) })) ∧
      commandStops 0x0 k none (.init k) s

/-- CONFIGURE's issue step starts SEQ at CHECK; it faults while SEQ runs a command (42_config_cache.md R115). -/
def Obligations.ConfigureStartsCheck : Prop :=
  ∀ (k : Nat) (cfg : CfgWord) (s : State), k < s.nClients →
    (s.clk = true → (s.slot k).pending = false → cfgReserved cfg = 0 →
      (s.seq.op = .none →
        exec (.configure k cfg) s =
          .next
            { s with
              seq := { s.seq with op := .configure, client := k, cfg := cfg, state := .check }
              slots := s.slots.set k .running }) ∧
        (s.seq.op ≠ .none → exec (.configure k cfg) s = .next { s with fault := some (.configureDuringTransfer k) })) ∧
      commandStops 0x1 k (some cfg) (.configure k cfg) s

/-- TRANSCEIVE's issue step leaves the client waiting for the lock, or refuses an overlong buffer set (R148). -/
def Obligations.TransceiveWaitsForLock : Prop :=
  ∀ (k : Nat) (cfg : CfgWord) (tx rx : BufSet) (s : State), k < s.nClients →
    (s.clk = true → (s.slot k).pending = false → cfgReserved cfg = 0 →
      (bufLen tx < 2 ^ 32 ∧ bufLen rx < 2 ^ 32 →
        exec (.transceive k cfg tx rx) s = .next { s with slots := s.slots.set k (.waitLock cfg tx rx) }) ∧
        (2 ^ 32 ≤ bufLen tx ∨ 2 ^ 32 ≤ bufLen rx →
          exec (.transceive k cfg tx rx) s = .next { s with refused := some .bufferLength })) ∧
      commandStops 0x2 k (some cfg) (.transceive k cfg tx rx) s

/-- RELEASE's issue step leaves the client in REL_WAIT and changes nothing else. Its REL_WAIT step does nothing while the
busy flag is set; else the lock is freed, whoever holds it, and the result is OK (R149, R150). That a poll turn of a
client not in REL_WAIT changes nothing is the model's choice (log entry 3). -/
def Obligations.ReleasePollsThenFreesLock : Prop :=
  ∀ (k : Nat) (cfg : CfgWord) (s : State), k < s.nClients →
    (s.clk = true → (s.slot k).pending = false → cfgReserved cfg = 0 →
      exec (.release k cfg) s = .next { s with slots := s.slots.set k .relWait }) ∧
      commandStops 0x3 k (some cfg) (.release k cfg) s ∧
        (s.slot k = .relWait →
          (s.ser.busy = true ∨ s.txFifo ≠ [] → runTurn (.relWait k) s = .next s) ∧
            (s.ser.busy = false ∧ s.txFifo = [] →
              runTurn (.relWait k) s =
                .next
                  { s with
                    lock := .free, slots := s.slots.set k (.done .ok), trace := s.trace ++ [.result k .ok] })) ∧
          (s.slot k ≠ .relWait → runTurn (.relWait k) s = .next s)

/-- TRANSCEIVE_ASYNC answers NOT_SUPPORTED at once and changes nothing else (R152). -/
def Obligations.AsyncIsNotSupported : Prop :=
  ∀ (k : Nat) (cfg : CfgWord) (tx rx : BufSet) (s : State), k < s.nClients →
    (s.clk = true → (s.slot k).pending = false → cfgReserved cfg = 0 →
      exec (.transceiveAsync k cfg tx rx) s =
        .next { s with slots := s.slots.set k (.done .notSupported), trace := s.trace ++ [.result k .notSupported] }) ∧
      commandStops 0x4 k (some cfg) (.transceiveAsync k cfg tx rx) s

/-! ## The sequencer's steps -/

/-- The acquire step: enabled with the lock FREE and a waiting client; it takes the lock and sets up the transfer in one
step, or faults while SEQ runs a command (43_transfer_context.md R118). That an acquire turn that is not enabled changes
nothing is the model's choice (log entry 3). -/
def Obligations.AcquireSetsUpTransfer : Prop :=
  ∀ (k : Nat) (s : State),
    (∀ cfg tx rx, s.lock = .free → s.slot k = .waitLock cfg tx rx →
      (s.seq.op = .none → bufLen tx < 2 ^ 32 → bufLen rx < 2 ^ 32 →
        runTurn (.acquire k) s =
          .next
            { s with
              lock := .held k
              seq :=
                { s.seq with
                  op := .transceive, client := k, cfg := cfg, tx := tx, rx := rx
                  txLen := BitVec.ofNat 32 (bufLen tx)
                  rxLen := BitVec.ofNat 32 (bufLen rx)
                  n := BitVec.ofNat 32 (max (bufLen tx) (bufLen rx))
                  pushed := 0, popped := 0, state := .waitBusy }
              slots := s.slots.set k .running }) ∧
        (s.seq.op ≠ .none → runTurn (.acquire k) s = .next { s with fault := some (.concurrentTransfer k) })) ∧
      (s.lock ≠ .free ∨ (∀ cfg tx rx, s.slot k ≠ .waitLock cfg tx rx) → runTurn (.acquire k) s = .next s)

/-- The WAIT_BUSY and FLUSH steps (45_controller_sequencer.md R141, R142). With RXFIFO holding n entries, n FLUSH steps in a
row empty it and the next one goes to CHECK: the flush terminates, which R142 marks as its own inference. -/
def Obligations.WaitBusyThenFlush : Prop :=
  ∀ s : State,
    (s.seq.state = .waitBusy →
      (s.ser.busy = true ∨ s.txFifo ≠ [] → runTurn .seq s = .next s) ∧
        (s.ser.busy = false ∧ s.txFifo = [] →
          runTurn .seq s = .next { s with seq := { s.seq with state := .flush } })) ∧
      (s.seq.state = .flush →
        (∀ e rest, s.rxFifo = e :: rest → runTurn .seq s = .next { s with rxFifo := rest }) ∧
          (s.rxFifo = [] → runTurn .seq s = .next { s with seq := { s.seq with state := .check } })) ∧
        (s.seq.state = .flush →
          seqStep^[s.rxFifo.length + 1] s = { s with rxFifo := [], seq := { s.seq with state := .check } })

/-- The CHECK step: a configuration for slave mode or a word size other than 8 is rejected and nothing else changes; any
other gives the candidate image, which is compared with the cache. The candidate holds the resolved pair and the
configuration's flags, with 8-bit data and everything else 0 (42_config_cache.md R108 to R110). -/
def Obligations.CheckRejectsOrCompares : Prop :=
  (∀ s : State, s.seq.state = .check →
    (cfgSlave s.seq.cfg = true ∨ cfgWs s.seq.cfg ≠ 8 →
      runTurn .seq s = .next { s with seq := { s.seq with state := .failed } }) ∧
      (cfgSlave s.seq.cfg = false → cfgWs s.seq.cfg = 8 →
        let cand := candidate s.par.pClkHz s.seq.cfg
        (s.cache.valid = true ∧ s.cache.image = cand →
          (s.seq.op = .transceive →
            runTurn .seq s = .next { s with seq := { s.seq with cand := cand, state := .select } }) ∧
            (s.seq.op = .configure →
              runTurn .seq s = .next { s with seq := { s.seq with cand := cand, state := .finish } })) ∧
          (¬ (s.cache.valid = true ∧ s.cache.image = cand) →
            runTurn .seq s = .next { s with seq := { s.seq with cand := cand, state := .writeCr0 } }))) ∧
    ∀ (p : BitVec 32) (cfg : CfgWord),
      let pair := resolve p.toNat (cfgFreq cfg).toNat
      (candidate p cfg).cr0.toNat = pair.2 * 256 + (cfgCpha cfg).toNat * 128 + (cfgCpol cfg).toNat * 64 + 7 ∧
        (candidate p cfg).cr1.toNat = (cfgLoop cfg).toNat ∧ (candidate p cfg).cpsr.toNat = pair.1

/-- The three image writes, in the order CR0, CR1, CPSR, each with its REGW event; the cache takes the image after the
third; the CR1 write faults while a frame is in progress with SSE set (R111 to R113). The last clause, that no frame is
in progress there inside a TRANSCEIVE, is R112's own inference from R141 and R134, over the invariant of
StepKeepsPumpAccounted. -/
def Obligations.ImageWrittenInOrder : Prop :=
  ∀ s : State,
    (s.seq.state = .writeCr0 →
      runTurn .seq s =
        .next
          { s with
            regs := { s.regs with cr0 := s.seq.cand.cr0.extractLsb' 0 16 }
            trace := s.trace ++ [.regw .seq 0x00 s.seq.cand.cr0]
            seq := { s.seq with state := .writeCr1 } }) ∧
      (s.seq.state = .writeCr1 →
        (s.ser.busy = true ∧ s.regs.cr1.getLsbD 1 = true →
          runTurn .seq s = .next { s with fault := some (.disableMidFrame s.seq.cand.cr1) }) ∧
          (¬ (s.ser.busy = true ∧ s.regs.cr1.getLsbD 1 = true) →
            runTurn .seq s =
              .next
                { s with
                  regs := { s.regs with cr1 := s.seq.cand.cr1.extractLsb' 0 4 }
                  trace := s.trace ++ [.regw .seq 0x04 s.seq.cand.cr1]
                  seq := { s.seq with state := .writeCpsr } })) ∧
        (s.seq.state = .writeCpsr → s.seq.op ≠ .none →
          runTurn .seq s =
            .next
              { s with
                regs := { s.regs with cpsr := s.seq.cand.cpsr.extractLsb' 1 7 }
                trace := s.trace ++ [.regw .seq 0x10 s.seq.cand.cpsr]
                cache := { valid := true, image := s.seq.cand }
                seq := { s.seq with state := if s.seq.op = .transceive then .select else .finish } }) ∧
          (s.pumpAccounted → s.seq.op = .transceive → s.seq.state = .writeCr1 → s.ser.busy = false)

/-- The FAILED and FINISH steps: a TRANSCEIVE frees the lock, the client gets UNSUPPORTED_CONFIG or OK, and SEQ is idle;
no register and no chip select changes (R143, R147). -/
def Obligations.CommandEndGivesResult : Prop :=
  ∀ s : State,
    (s.seq.state = .failed →
      runTurn .seq s =
        .next
          { s with
            lock := if s.seq.op = .transceive then .free else s.lock
            slots := s.slots.set s.seq.client (.done .unsupportedConfig)
            trace := s.trace ++ [.result s.seq.client .unsupportedConfig]
            seq := { s.seq with op := .none, state := .idle } }) ∧
      (s.seq.state = .finish →
        runTurn .seq s =
          .next
            { s with
              lock := if s.seq.op = .transceive then .free else s.lock
              slots := s.slots.set s.seq.client (.done .ok)
              trace := s.trace ++ [.result s.seq.client .ok]
              seq := { s.seq with op := .none, state := .idle } })

/-- The SELECT, ENABLE and DESELECT steps: chip select is asserted before SSE is set by one read-modify-write of CR1,
whose REGW event is emitted also when SSE was 1, and it is deasserted after the pump; SSE is cleared by nothing but the
CR1 image write and a HOST write of CR1 (R144, R145, and the step of R146). -/
def Obligations.SelectEnableDeselect : Prop :=
  (∀ s : State,
    (s.seq.state = .select →
      runTurn .seq s =
        .next { s with cs := true, trace := s.trace ++ [.cs true], seq := { s.seq with state := .enable } }) ∧
      (s.seq.state = .enable →
        runTurn .seq s =
          .next
            { s with
              regs := { s.regs with cr1 := s.regs.cr1 ||| 2 }
              trace := s.trace ++ [.regw .seq 0x04 ((s.regs.cr1 ||| 2).setWidth 32)]
              seq := { s.seq with state := .fill } }) ∧
        (s.seq.state = .deselect →
          runTurn .seq s =
            .next { s with cs := false, trace := s.trace ++ [.cs false], seq := { s.seq with state := .finish } })) ∧
    ∀ s t : State, step s = .next t → s.regs.cr1.getLsbD 1 = true → t.regs.cr1.getLsbD 1 = false →
      (s.nextTurn = .seq ∧ s.seq.state = .writeCr1) ∨
        ∃ w, s.nextTurn = .host { selector := 0x144, wdata := w } ∧ w.getLsbD 1 = false

/-- The FILL step pushes at most one unit, under its four conditions, and goes to DRAIN (44_pump_engine.md R127). -/
def Obligations.FillPushesOneUnit : Prop :=
  ∀ s : State, s.seq.state = .fill →
    let ready := s.seq.pushed < s.seq.n ∧ s.txFifo.length < s.par.fifoDepth ∧ s.rxFifo.length ≠ s.par.fifoDepth ∧
      ∀ limit, s.par.inflightLimit = some limit → (s.seq.pushed - s.seq.popped).toNat < limit
    (ready →
      runTurn .seq s =
        .next
          { s with
            txFifo := s.txFifo ++ [(txByte s s.seq.pushed).setWidth 16]
            seq := { s.seq with pushed := s.seq.pushed + 1, state := .drain } }) ∧
      (¬ ready → runTurn .seq s = .next { s with seq := { s.seq with state := .drain } })

/-- The DRAIN step pops one unit and counts it. It stores the unit's byte at ADDR(rx, popped), leaving every other byte of
memory alone, or leaves memory alone when rx is ABSENT or the unit lies past rxLen. With RXFIFO empty it goes to DESELECT
or back to FILL (R128, R126). -/
def Obligations.DrainStoresOneUnit : Prop :=
  ∀ s : State, s.seq.state = .drain → s.memCanonical →
    (∀ e rest, s.rxFifo = e :: rest →
      ∃ t, runTurn .seq s = .next t ∧
        t = { s with rxFifo := rest, mem := t.mem, seq := { s.seq with popped := s.seq.popped + 1 } } ∧
          (∀ a, s.seq.popped < s.seq.rxLen → bufAddr s.seq.rx s.seq.popped.toNat = some a →
            t.memRead a = e.setWidth 8 ∧ ∀ b, b ≠ a → t.memRead b = s.memRead b) ∧
            (s.seq.rxLen ≤ s.seq.popped ∨ s.seq.rx = none → t.mem = s.mem)) ∧
      (s.rxFifo = [] →
        (s.seq.pushed = s.seq.n ∧ s.seq.popped = s.seq.n →
          runTurn .seq s = .next { s with seq := { s.seq with state := .deselect } }) ∧
          (¬ (s.seq.pushed = s.seq.n ∧ s.seq.popped = s.seq.n) →
            runTurn .seq s = .next { s with seq := { s.seq with state := .fill } }))

/-- The transmit byte of unit i: the memory byte at ADDR(tx, i) within the transmit set, else the dummy byte 0x00 (R125). -/
def Obligations.TransmitByteOrDummy : Prop :=
  ∀ (s : State) (i : BitVec 32),
    (∀ a, i < s.seq.txLen → bufAddr s.seq.tx i.toNat = some a → txByte s i = s.memRead a) ∧
      (s.seq.txLen ≤ i ∨ s.seq.tx = none → txByte s i = 0x00)

/-- The address of byte i of a buffer set: in the descriptor that the byte lies in, wrapping modulo 2^32; past the set's
length there is no byte (43_transfer_context.md R123, R124). -/
def Obligations.BufferByteAddress : Prop :=
  (∀ (before after : List Desc) (d : Desc) (i : Nat), descsLen before ≤ i → i < descsLen before + d.len.toNat →
      bufAddr (some (before ++ d :: after)) i = some (d.addr + BitVec.ofNat 32 (i - descsLen before))) ∧
    (∀ (ds : List Desc) (i : Nat), i < bufLen (some ds) → bufAddr (some ds) i ≠ none) ∧
      (∀ (set : BufSet) (i : Nat), bufLen set ≤ i → bufAddr set i = none) ∧
        bufLen none = 0 ∧ ∀ ds : List Desc, bufLen (some ds) = (ds.map fun d => d.len.toNat).sum

/-! ## The serial engine's steps -/

/-- The frame-start step (44_pump_engine.md R134, 60_exceptions.md R159). That a frame-start turn that is not enabled changes
nothing is the model's choice (log entry 3). -/
def Obligations.FrameStartLatches : Prop :=
  ∀ s : State,
    (s.clk = true → s.regs.cr1.getLsbD 1 = true → s.ser.busy = false → ∀ e rest, s.txFifo = e :: rest →
      (s.regs.cr0.extractLsb' 0 4 ≠ 7 ∨ s.regs.cr0.extractLsb' 4 2 ≠ 0 ∨ s.regs.cr1.getLsbD 2 = true ∨
          s.regs.cpsr = 0 →
        runTurn .frameStart s = .next { s with refused := some .unmodelledFrame }) ∧
        (s.regs.cr0.extractLsb' 0 4 = 7 ∧ s.regs.cr0.extractLsb' 4 2 = 0 ∧ s.regs.cr1.getLsbD 2 = false ∧
            s.regs.cpsr ≠ 0 →
          runTurn .frameStart s =
            .next
              { s with
                txFifo := rest
                ser :=
                  { busy := true, shift := e.setWidth 8
                    latched := { cr0 := s.readCr0, cr1 := s.readCr1, cpsr := s.readCpsr } } })) ∧
      (s.clk = false ∨ s.regs.cr1.getLsbD 1 = false ∨ s.ser.busy = true ∨ s.txFifo = [] →
        runTurn .frameStart s = .next s)

/-- The frame-completion step: the byte sent in loopback, else the byte on data-in, goes into RXFIFO; with RXFIFO full it
is lost, RORRIS is set and an OVERRUN event follows the FRAME event (R135, R136). That a frame-completion turn with SER
idle changes nothing is the model's choice (log entry 3). -/
def Obligations.FrameDoneReceives : Prop :=
  ∀ (s : State) (dataIn : Byte),
    (s.ser.busy = true →
      let miso := if s.ser.latched.cr1.getLsbD 0 = true then s.ser.shift else dataIn
      let frame := Event.frame s.ser.shift miso s.ser.latched.cr0 s.ser.latched.cr1 s.ser.latched.cpsr
      (s.rxFifo.length < s.par.fifoDepth →
        runTurn (.frameDone dataIn) s =
          .next
            { s with
              rxFifo := s.rxFifo ++ [miso.setWidth 16], trace := s.trace ++ [frame]
              ser := { s.ser with busy := false } }) ∧
        (s.par.fifoDepth ≤ s.rxFifo.length →
          runTurn (.frameDone dataIn) s =
            .next
              { s with
                regs := { s.regs with rorris := true }, trace := s.trace ++ [frame, .overrun miso]
                ser := { s.ser with busy := false } })) ∧
      (s.ser.busy = false → runTurn (.frameDone dataIn) s = .next s)

/-- The receive-timeout draws: RTRIS may be set while RXFIFO holds data and no frame is in progress, and cleared while
RXFIFO is empty; ICR's bit 1 clears it (R137). That the draws do not look at the clock is log entry 19's reading of R137
beside R170, and that a draw that is not enabled changes nothing is the model's choice (log entry 3). -/
def Obligations.ReceiveTimeoutDraws : Prop :=
  ∀ s : State,
    (s.rxFifo ≠ [] → s.ser.busy = false →
      runTurn .timeoutSet s = .next { s with regs := { s.regs with rtris := true } }) ∧
      (s.rxFifo = [] → runTurn .timeoutClear s = .next { s with regs := { s.regs with rtris := false } }) ∧
        (s.rxFifo = [] ∨ s.ser.busy = true → runTurn .timeoutSet s = .next s) ∧
          (s.rxFifo ≠ [] → runTurn .timeoutClear s = .next s) ∧
            ∀ w : Word, s.clk = true → s.seq.op = .none → w.getLsbD 1 = true →
              ∃ t, exec (.wrIcr w) s = .next t ∧ t.regs.rtris = false

/-! ## The resolver -/

/-- RESOLVE returns the first pair, in the scan order of R100, that satisfies the bound, and the fallback when no legal
pair does; the result is always a legal pair (41_clock_resolver.md R99, R100). -/
def Obligations.ResolverReturnsFirstPair : Prop :=
  ∀ p f : Nat,
    legalPair (resolve p f).1 (resolve p f).2 ∧
      ((∃ a b, legalPair a b ∧ meetsBound p f a b) →
        meetsBound p f (resolve p f).1 (resolve p f).2 ∧
          ∀ a b, legalPair a b → a < (resolve p f).1 ∨ (a = (resolve p f).1 ∧ b < (resolve p f).2) →
            ¬ meetsBound p f a b) ∧
        ((∀ a b, legalPair a b → ¬ meetsBound p f a b) → resolve p f = (254, 255))

/-- The closed form: the least even prescaler a with P / (a * (f + 1)) <= 255, and that quotient as scr; the fallback
iff P >= 65024 * (f + 1), or when it is also the closed form's pair (R102). -/
def Obligations.ResolverClosedForm : Prop :=
  ∀ p f : Nat,
    (p < 65024 * (f + 1) →
      ∃ a, a % 2 = 0 ∧ 2 ≤ a ∧ a ≤ 254 ∧ p / (a * (f + 1)) ≤ 255 ∧ resolve p f = (a, p / (a * (f + 1))) ∧
        ∀ b, b % 2 = 0 → 2 ≤ b → b < a → 255 < p / (b * (f + 1))) ∧
      (65024 * (f + 1) ≤ p → resolve p f = (254, 255))

/-- For P < 512 * (f + 1) the result has prescaler 2 and the least divisor of the legal pairs that satisfy the bound
(R105). -/
def Obligations.ResolverMinimalWithPrescalerTwo : Prop :=
  ∀ p f : Nat, p < 512 * (f + 1) →
    (resolve p f).1 = 2 ∧
      ∀ a b, legalPair a b → meetsBound p f a b → divisor (resolve p f).1 (resolve p f).2 ≤ divisor a b

/-- RESOLVE's result fails the bound exactly when no legal pair satisfies it, which is exactly when P >= 65024 * (f + 1);
it is then the fallback (254, 255). RESOLVE returns (254, 255) exactly when no other legal pair satisfies the bound
(R106). -/
def Obligations.ResolverFallbackCondition : Prop :=
  ∀ p f : Nat,
    (¬ meetsBound p f (resolve p f).1 (resolve p f).2 ↔ 65024 * (f + 1) ≤ p) ∧
      ((∀ a b, legalPair a b → ¬ meetsBound p f a b) ↔ 65024 * (f + 1) ≤ p) ∧
        (65024 * (f + 1) ≤ p → resolve p f = (254, 255)) ∧
          (resolve p f = (254, 255) ↔ ∀ a b, legalPair a b → (a, b) ≠ (254, 255) → ¬ meetsBound p f a b)

/-! ## Invariants that every step keeps, from any state -/

/-- The reset state meets every invariant of the statements below and of DmaControlStaysZero, and the premises these
add about the parameters and the buffers. It is quiescent and its parameters are legal. The values the spec leaves open
are the model's: the parameters are log entry 5's, buffersDisjoint holds because SEQ.tx and SEQ.rx are ABSENT by log
entry 6, and memCanonical is about the empty memory of log entry 7. -/
def Obligations.ResetMeetsInvariants : Prop :=
  State.reset.memCanonical ∧ State.reset.fifosBounded ∧ State.reset.untouchedUnlessClocked ∧
    State.reset.seqConsistent ∧ State.reset.exclusive ∧ State.reset.csBracketed ∧ State.reset.pumpAccounted ∧
      State.reset.imageInProgress ∧ State.reset.waitersFit ∧ State.reset.loopbackInOrder ∧
        State.reset.buffersDisjoint ∧ State.reset.regs.dmacr = 0 ∧ State.reset.par.inflightWithinDepth ∧
          State.reset.parametersLegal ∧ State.reset.quiescent

/-- Every step keeps system memory in canonical form. -/
def Obligations.StepKeepsMemoryCanonical : Prop := ∀ s t : State, s.memCanonical → step s = .next t → t.memCanonical

/-- Every step keeps both FIFOs within FIFO_DEPTH (10_state.md R29, R30). -/
def Obligations.StepKeepsFifosBounded : Prop := ∀ s t : State, s.fifosBounded → step s = .next t → t.fifosBounded

/-- Until INIT has run, every step leaves the controller as reset left it (60_exceptions.md R170). -/
def Obligations.StepKeepsUnclockedUntouched : Prop :=
  ∀ s t : State, s.untouchedUnlessClocked → step s = .next t → t.untouchedUnlessClocked

/-- Every step keeps SEQ idle exactly while it runs no command, and CONFIGURE within its own states
(45_controller_sequencer.md R139). -/
def Obligations.StepKeepsSequencerConsistent : Prop :=
  ∀ s t : State, s.seqConsistent → step s = .next t → t.seqConsistent

/-- Every step keeps at most one command running, that of the client whose slot is RUNNING, and the lock held by no
other client (43_transfer_context.md R118 to R120). -/
def Obligations.StepKeepsCommandsExclusive : Prop :=
  ∀ s t : State, s.seqConsistent → s.exclusive → step s = .next t → t.exclusive

/-- Every step keeps the chip-select events alternating, and chip select asserted exactly from SELECT to DESELECT
(R120). -/
def Obligations.StepKeepsChipSelectBracketed : Prop := ∀ s t : State, s.csBracketed → step s = .next t → t.csBracketed

/-- With INFLIGHT_LIMIT <= FIFO_DEPTH every step keeps the pump's accounting: during the pump the units in the FIFOs and
the shifter are those pushed and not yet popped, at most INFLIGHT_LIMIT of them, and at DESELECT none is left
(44_pump_engine.md R130). -/
def Obligations.StepKeepsPumpAccounted : Prop :=
  ∀ s t : State, s.par.inflightWithinDepth → s.pumpAccounted → step s = .next t → t.pumpAccounted

/-- Every step keeps the image write in progress consistent: the registers already written hold the candidate of the
command's configuration; so after the WRITE_CPSR step the three live registers read as the cached image
(42_config_cache.md R109, R114). -/
def Obligations.StepKeepsImageInProgress : Prop :=
  (∀ s t : State, s.imageInProgress → step s = .next t → t.imageInProgress) ∧
    ∀ s t : State, s.imageInProgress → s.seq.state = .writeCpsr → runTurn .seq s = .next t →
      t.cache.valid = true ∧ t.readCr0 = t.cache.image.cr0 ∧ t.readCr1 = t.cache.image.cr1 ∧
        t.readCpsr = t.cache.image.cpsr

/-- Every step keeps the buffer sets of the waiting transfers within LEN_BITS (43_transfer_context.md R123). -/
def Obligations.StepKeepsWaitersFit : Prop := ∀ s t : State, s.waitersFit → step s = .next t → t.waitersFit

/-! ## Rules about the whole machine -/

/-- During a pump with INFLIGHT_LIMIT <= FIFO_DEPTH no frame overruns: no step from FILL or DRAIN of a TRANSCEIVE sets
RORRIS or emits an OVERRUN event (44_pump_engine.md R130). -/
def Obligations.NoOverrunDuringPump : Prop :=
  ∀ s t : State, s.par.inflightWithinDepth → s.pumpAccounted → s.seq.op = .transceive →
    s.seq.state = .fill ∨ s.seq.state = .drain → step s = .next t →
      t.regs.rorris = s.regs.rorris ∧ ∀ m, t.trace ≠ s.trace ++ [.overrun m] ∧ ∀ e, t.trace ≠ s.trace ++ [e, .overrun m]

/-- In loopback, with INFLIGHT_LIMIT <= FIFO_DEPTH and transmit and receive buffers that do not overlap, every step keeps
the units in flight, oldest first, equal to the transmit bytes from the receive cursor on; so the byte that a DRAIN step
stores as receive byte i is transmit byte i, or the dummy byte past the transmit set's end (44_pump_engine.md R132). -/
def Obligations.LoopbackEchoesInOrder : Prop :=
  (∀ s t : State, s.par.inflightWithinDepth → s.memCanonical → s.buffersDisjoint → s.pumpAccounted →
      s.loopbackInOrder → step s = .next t → t.loopbackInOrder) ∧
    ∀ (s : State) (e : Entry) (rest : List Entry), s.loopbackInOrder → s.seq.op = .transceive →
      s.seq.state = .drain → s.regs.lbm = true → s.rxFifo = e :: rest → e.setWidth 8 = txByte s s.seq.popped

/-- Only the SELECT step of a TRANSCEIVE asserts chip select, and only its DESELECT step deasserts it, each with its
event (43_transfer_context.md R121, R122). -/
def Obligations.ChipSelectWriters : Prop :=
  ∀ s t : State, s.seqConsistent → step s = .next t → t.cs ≠ s.cs →
    s.nextTurn = .seq ∧ s.seq.op = .transceive ∧
      ((s.seq.state = .select ∧ t.cs = true ∧ t.trace = s.trace ++ [.cs true]) ∨
        (s.seq.state = .deselect ∧ t.cs = false ∧ t.trace = s.trace ++ [.cs false]))

/-- RORRIS is set only by a frame completion and cleared only by a write of ICR (10_state.md R41); RTRIS is set only by the
timeout draw and cleared only by a write of ICR or by the draw (44_pump_engine.md R137). That the draw also clears RTRIS
is the model's reading (log entry 19): R137 is followed where R41 names R94 as the only clearer. -/
def Obligations.InterruptLatchWriters : Prop :=
  ∀ s t : State, step s = .next t →
    (t.regs.rorris ≠ s.regs.rorris →
      (t.regs.rorris = true ∧ ∃ m, s.nextTurn = .frameDone m) ∨
        (t.regs.rorris = false ∧ ∃ w, s.nextTurn = .host { selector := 0x160, wdata := w } ∧ w.getLsbD 0 = true)) ∧
      (t.regs.rtris ≠ s.regs.rtris →
        (t.regs.rtris = true ∧ s.nextTurn = .timeoutSet) ∨
          (t.regs.rtris = false ∧
            (s.nextTurn = .timeoutClear ∨
              ∃ w, s.nextTurn = .host { selector := 0x160, wdata := w } ∧ w.getLsbD 1 = true)))

/-- Only the WRITE_CPSR step writes CACHE, the clock is turned on only by INIT and never off again, no step removes or
changes an event of TRACE, and no step writes a parameter or changes the number of clients (10_state.md R34, R40,
60_exceptions.md R170; that the parameters are in the state is log entry 5's choice). -/
def Obligations.CacheClockTraceAndParameterWriters : Prop :=
  ∀ s t : State, step s = .next t →
    (t.cache ≠ s.cache →
      s.nextTurn = .seq ∧ s.seq.state = .writeCpsr ∧ t.cache = { valid := true, image := s.seq.cand }) ∧
      (s.clk = true → t.clk = true) ∧ (t.clk ≠ s.clk → ∃ k c, s.nextTurn = .client k c ∧ c.op = 0) ∧
        (∃ es, t.trace = s.trace ++ es) ∧ t.par = s.par ∧ t.nClients = s.nClients

/-- System memory changes only in a DRAIN step, at the byte of the unit popped, or by a write of its owner, at a byte
that no outstanding TRANSCEIVE uses (20_memory.md R46, R56, R58; the owner's step is log entry 11's choice). -/
def Obligations.MemoryWriters : Prop :=
  ∀ s t : State, s.memCanonical → step s = .next t → ∀ b : Addr, t.memRead b ≠ s.memRead b →
    (s.nextTurn = .seq ∧ s.seq.state = .drain ∧ bufAddr s.seq.rx s.seq.popped.toNat = some b) ∨
      ∃ v, s.nextTurn = .memWrite b v ∧ s.inUse b = false

/-- Progress of the pump: in a run in which SEQ's state steps and SER's frames are weakly fair, so in every run that is
weakly fair for SEQ and SER, with INFLIGHT_LIMIT from 1 to FIFO_DEPTH, the run bit set and a legal frame format, a
TRANSCEIVE that is in FILL or DRAIN stays there until it reaches DESELECT, and reaches it (44_pump_engine.md R131; what a
run and weak fairness are: log entry 17). -/
def Obligations.PumpReachesDeselect : Prop :=
  ∀ (turn : Nat → Turn) (state : Nat → State) (n : Nat), IsRun turn state → SeqStateFair turn state →
    FrameFair turn state → (state n).par.legal → (state n).par.inflightWithinDepth → (state n).canSend →
      (state n).pumpAccounted → (state n).inPump →
        ∃ m, n < m ∧ (∀ k, n ≤ k → k < m → (state k).inPump) ∧ (state m).seq.op = .transceive ∧
          (state m).seq.state = .deselect

/-- Without SER's steps the pump loops for ever: in a run with no frame completion, a TRANSCEIVE in FILL or DRAIN that has
fewer units popped or waiting in RXFIFO than N never leaves the two states, however fair SEQ is (R131). -/
def Obligations.PumpLoopsWithoutFrames : Prop :=
  ∀ (turn : Nat → Turn) (state : Nat → State) (n : Nat), IsRun turn state → (∀ m, n ≤ m → ¬ isFrameDone (turn m)) →
    (state n).inPump → (state n).seq.popped.toNat + (state n).rxFifo.length < (state n).seq.n.toNat →
      ∀ m, n ≤ m → (state m).inPump

/-- A lock that is waited for is taken: in a run in which the acquire step is weakly fair, a FREE lock for which a client
waits is at some later point HELD by a client whose TRANSCEIVE runs; which one is open (43_transfer_context.md R118,
45_controller_sequencer.md R154; log entry 17). -/
def Obligations.WaitedForLockIsTaken : Prop :=
  ∀ (turn : Nat → Turn) (state : Nat → State) (n k : Nat), IsRun turn state → AcquireFair turn state →
    (state n).seqConsistent → (state n).exclusive → (state n).lock = .free → (state n).waits k →
      ∃ m j, n < m ∧ (state m).lock = .held j ∧ (state m).slot j = .running
end

