-- ==== Sys2Proof/Laws/Buffers.lean ====
section
/-! SUPPORT. Buffer sets: where byte i of a descriptor list lies, and what storing a received byte does. -/
namespace Sys2Proof.Machine

/-- The lengths of two descriptor lists add up. -/
theorem descsLen_append : ∀ xs ys : List Desc, descsLen (xs ++ ys) = descsLen xs + descsLen ys
  | [], ys => by simp [descsLen]
  | x :: xs, ys => by simp [descsLen, descsLen_append xs ys]; omega

/-- Bytes past the first list lie in the second. -/
theorem descsAddr_append_right : ∀ (xs ys : List Desc) {i : Nat}, descsLen xs ≤ i →
    descsAddr (xs ++ ys) i = descsAddr ys (i - descsLen xs)
  | [], ys, i, _ => by simp [descsLen]
  | x :: xs, ys, i, h => by
    simp only [descsLen] at h
    have hx : ¬ i < x.len.toNat := by omega
    simp only [List.cons_append, descsAddr, hx, if_false, descsLen]
    rw [descsAddr_append_right xs ys (by omega), Nat.sub_sub]

/-- A byte has an address exactly when it lies within the list's length. -/
theorem descsAddr_isSome_iff : ∀ (ds : List Desc) (i : Nat), (descsAddr ds i).isSome = true ↔ i < descsLen ds
  | [], i => by simp [descsAddr, descsLen]
  | d :: ds, i => by
    unfold descsAddr
    split
    · rename_i h
      simp only [descsLen, Option.isSome_some, true_iff]
      omega
    · rename_i h
      rw [descsAddr_isSome_iff ds]
      simp only [descsLen]
      omega

/-- Storing a received byte is one memory write at ADDR(rx, i), or nothing. -/
theorem rxStore_cases (s : State) (i : BitVec 32) (v : Byte) :
    (∃ a, i < s.seq.rxLen ∧ bufAddr s.seq.rx i.toNat = some a ∧ rxStore s i v = s.memWrite a v) ∨
      (¬ (i < s.seq.rxLen ∧ bufAddr s.seq.rx i.toNat ≠ none) ∧ rxStore s i v = s) := by
  unfold rxStore
  split
  · rename_i h
    split
    · rename_i a ha
      exact .inl ⟨a, h, ha, rfl⟩
    · rename_i ha
      exact .inr ⟨by simp [ha], rfl⟩
  · rename_i h
    exact .inr ⟨by simp [h], rfl⟩

/-- The acquire step sets up the transfer, faults, or does nothing. -/
theorem acquireStep_cases (k : Nat) (s : State) :
    (∃ cfg tx rx, s.lock = .free ∧ s.slot k = .waitLock cfg tx rx ∧ s.seq.op = .none ∧
        acquireStep k s = startTransfer s k cfg tx rx) ∨
      (s.lock = .free ∧ s.seq.op ≠ .none ∧ acquireStep k s = s.halt (.fault (.concurrentTransfer k))) ∨
        acquireStep k s = s := by
  unfold acquireStep
  split
  · rename_i cfg tx rx hl hs
    split
    · rename_i h
      exact .inl ⟨cfg, tx, rx, hl, hs, h, rfl⟩
    · rename_i h
      exact .inr (.inl ⟨hl, h, rfl⟩)
  · exact .inr (.inr rfl)

end Sys2Proof.Machine
end

