-- ==== Sys2Proof/Laws/State.lean ====
section
/-! SUPPORT. What each setter of the state leaves in each field, and how the derived operations reduce to setters: the
simp set by which no later proof unfolds a record update. -/
namespace Sys2Proof.Machine

variable (s : State)

/-! ### setRegs -/

@[simp] theorem State.setRegs_par (x : Regs) : (s.setRegs x).par = s.par := rfl
@[simp] theorem State.setRegs_regs (x : Regs) : (s.setRegs x).regs = x := rfl
@[simp] theorem State.setRegs_txFifo (x : Regs) : (s.setRegs x).txFifo = s.txFifo := rfl
@[simp] theorem State.setRegs_rxFifo (x : Regs) : (s.setRegs x).rxFifo = s.rxFifo := rfl
@[simp] theorem State.setRegs_ser (x : Regs) : (s.setRegs x).ser = s.ser := rfl
@[simp] theorem State.setRegs_seq (x : Regs) : (s.setRegs x).seq = s.seq := rfl
@[simp] theorem State.setRegs_cache (x : Regs) : (s.setRegs x).cache = s.cache := rfl
@[simp] theorem State.setRegs_lock (x : Regs) : (s.setRegs x).lock = s.lock := rfl
@[simp] theorem State.setRegs_cs (x : Regs) : (s.setRegs x).cs = s.cs := rfl
@[simp] theorem State.setRegs_clk (x : Regs) : (s.setRegs x).clk = s.clk := rfl
@[simp] theorem State.setRegs_slots (x : Regs) : (s.setRegs x).slots = s.slots := rfl
@[simp] theorem State.setRegs_fault (x : Regs) : (s.setRegs x).fault = s.fault := rfl
@[simp] theorem State.setRegs_refused (x : Regs) : (s.setRegs x).refused = s.refused := rfl
@[simp] theorem State.setRegs_trace (x : Regs) : (s.setRegs x).trace = s.trace := rfl
@[simp] theorem State.setRegs_rdata (x : Regs) : (s.setRegs x).rdata = s.rdata := rfl
@[simp] theorem State.setRegs_mem (x : Regs) : (s.setRegs x).mem = s.mem := rfl
@[simp] theorem State.setRegs_env (x : Regs) : (s.setRegs x).env = s.env := rfl

/-! ### setTxFifo -/

@[simp] theorem State.setTxFifo_par (x : List Entry) : (s.setTxFifo x).par = s.par := rfl
@[simp] theorem State.setTxFifo_regs (x : List Entry) : (s.setTxFifo x).regs = s.regs := rfl
@[simp] theorem State.setTxFifo_txFifo (x : List Entry) : (s.setTxFifo x).txFifo = x := rfl
@[simp] theorem State.setTxFifo_rxFifo (x : List Entry) : (s.setTxFifo x).rxFifo = s.rxFifo := rfl
@[simp] theorem State.setTxFifo_ser (x : List Entry) : (s.setTxFifo x).ser = s.ser := rfl
@[simp] theorem State.setTxFifo_seq (x : List Entry) : (s.setTxFifo x).seq = s.seq := rfl
@[simp] theorem State.setTxFifo_cache (x : List Entry) : (s.setTxFifo x).cache = s.cache := rfl
@[simp] theorem State.setTxFifo_lock (x : List Entry) : (s.setTxFifo x).lock = s.lock := rfl
@[simp] theorem State.setTxFifo_cs (x : List Entry) : (s.setTxFifo x).cs = s.cs := rfl
@[simp] theorem State.setTxFifo_clk (x : List Entry) : (s.setTxFifo x).clk = s.clk := rfl
@[simp] theorem State.setTxFifo_slots (x : List Entry) : (s.setTxFifo x).slots = s.slots := rfl
@[simp] theorem State.setTxFifo_fault (x : List Entry) : (s.setTxFifo x).fault = s.fault := rfl
@[simp] theorem State.setTxFifo_refused (x : List Entry) : (s.setTxFifo x).refused = s.refused := rfl
@[simp] theorem State.setTxFifo_trace (x : List Entry) : (s.setTxFifo x).trace = s.trace := rfl
@[simp] theorem State.setTxFifo_rdata (x : List Entry) : (s.setTxFifo x).rdata = s.rdata := rfl
@[simp] theorem State.setTxFifo_mem (x : List Entry) : (s.setTxFifo x).mem = s.mem := rfl
@[simp] theorem State.setTxFifo_env (x : List Entry) : (s.setTxFifo x).env = s.env := rfl

/-! ### setRxFifo -/

@[simp] theorem State.setRxFifo_par (x : List Entry) : (s.setRxFifo x).par = s.par := rfl
@[simp] theorem State.setRxFifo_regs (x : List Entry) : (s.setRxFifo x).regs = s.regs := rfl
@[simp] theorem State.setRxFifo_txFifo (x : List Entry) : (s.setRxFifo x).txFifo = s.txFifo := rfl
@[simp] theorem State.setRxFifo_rxFifo (x : List Entry) : (s.setRxFifo x).rxFifo = x := rfl
@[simp] theorem State.setRxFifo_ser (x : List Entry) : (s.setRxFifo x).ser = s.ser := rfl
@[simp] theorem State.setRxFifo_seq (x : List Entry) : (s.setRxFifo x).seq = s.seq := rfl
@[simp] theorem State.setRxFifo_cache (x : List Entry) : (s.setRxFifo x).cache = s.cache := rfl
@[simp] theorem State.setRxFifo_lock (x : List Entry) : (s.setRxFifo x).lock = s.lock := rfl
@[simp] theorem State.setRxFifo_cs (x : List Entry) : (s.setRxFifo x).cs = s.cs := rfl
@[simp] theorem State.setRxFifo_clk (x : List Entry) : (s.setRxFifo x).clk = s.clk := rfl
@[simp] theorem State.setRxFifo_slots (x : List Entry) : (s.setRxFifo x).slots = s.slots := rfl
@[simp] theorem State.setRxFifo_fault (x : List Entry) : (s.setRxFifo x).fault = s.fault := rfl
@[simp] theorem State.setRxFifo_refused (x : List Entry) : (s.setRxFifo x).refused = s.refused := rfl
@[simp] theorem State.setRxFifo_trace (x : List Entry) : (s.setRxFifo x).trace = s.trace := rfl
@[simp] theorem State.setRxFifo_rdata (x : List Entry) : (s.setRxFifo x).rdata = s.rdata := rfl
@[simp] theorem State.setRxFifo_mem (x : List Entry) : (s.setRxFifo x).mem = s.mem := rfl
@[simp] theorem State.setRxFifo_env (x : List Entry) : (s.setRxFifo x).env = s.env := rfl

/-! ### setSer -/

@[simp] theorem State.setSer_par (x : Ser) : (s.setSer x).par = s.par := rfl
@[simp] theorem State.setSer_regs (x : Ser) : (s.setSer x).regs = s.regs := rfl
@[simp] theorem State.setSer_txFifo (x : Ser) : (s.setSer x).txFifo = s.txFifo := rfl
@[simp] theorem State.setSer_rxFifo (x : Ser) : (s.setSer x).rxFifo = s.rxFifo := rfl
@[simp] theorem State.setSer_ser (x : Ser) : (s.setSer x).ser = x := rfl
@[simp] theorem State.setSer_seq (x : Ser) : (s.setSer x).seq = s.seq := rfl
@[simp] theorem State.setSer_cache (x : Ser) : (s.setSer x).cache = s.cache := rfl
@[simp] theorem State.setSer_lock (x : Ser) : (s.setSer x).lock = s.lock := rfl
@[simp] theorem State.setSer_cs (x : Ser) : (s.setSer x).cs = s.cs := rfl
@[simp] theorem State.setSer_clk (x : Ser) : (s.setSer x).clk = s.clk := rfl
@[simp] theorem State.setSer_slots (x : Ser) : (s.setSer x).slots = s.slots := rfl
@[simp] theorem State.setSer_fault (x : Ser) : (s.setSer x).fault = s.fault := rfl
@[simp] theorem State.setSer_refused (x : Ser) : (s.setSer x).refused = s.refused := rfl
@[simp] theorem State.setSer_trace (x : Ser) : (s.setSer x).trace = s.trace := rfl
@[simp] theorem State.setSer_rdata (x : Ser) : (s.setSer x).rdata = s.rdata := rfl
@[simp] theorem State.setSer_mem (x : Ser) : (s.setSer x).mem = s.mem := rfl
@[simp] theorem State.setSer_env (x : Ser) : (s.setSer x).env = s.env := rfl

/-! ### setSeq -/

@[simp] theorem State.setSeq_par (x : Seq) : (s.setSeq x).par = s.par := rfl
@[simp] theorem State.setSeq_regs (x : Seq) : (s.setSeq x).regs = s.regs := rfl
@[simp] theorem State.setSeq_txFifo (x : Seq) : (s.setSeq x).txFifo = s.txFifo := rfl
@[simp] theorem State.setSeq_rxFifo (x : Seq) : (s.setSeq x).rxFifo = s.rxFifo := rfl
@[simp] theorem State.setSeq_ser (x : Seq) : (s.setSeq x).ser = s.ser := rfl
@[simp] theorem State.setSeq_seq (x : Seq) : (s.setSeq x).seq = x := rfl
@[simp] theorem State.setSeq_cache (x : Seq) : (s.setSeq x).cache = s.cache := rfl
@[simp] theorem State.setSeq_lock (x : Seq) : (s.setSeq x).lock = s.lock := rfl
@[simp] theorem State.setSeq_cs (x : Seq) : (s.setSeq x).cs = s.cs := rfl
@[simp] theorem State.setSeq_clk (x : Seq) : (s.setSeq x).clk = s.clk := rfl
@[simp] theorem State.setSeq_slots (x : Seq) : (s.setSeq x).slots = s.slots := rfl
@[simp] theorem State.setSeq_fault (x : Seq) : (s.setSeq x).fault = s.fault := rfl
@[simp] theorem State.setSeq_refused (x : Seq) : (s.setSeq x).refused = s.refused := rfl
@[simp] theorem State.setSeq_trace (x : Seq) : (s.setSeq x).trace = s.trace := rfl
@[simp] theorem State.setSeq_rdata (x : Seq) : (s.setSeq x).rdata = s.rdata := rfl
@[simp] theorem State.setSeq_mem (x : Seq) : (s.setSeq x).mem = s.mem := rfl
@[simp] theorem State.setSeq_env (x : Seq) : (s.setSeq x).env = s.env := rfl

/-! ### setCache -/

@[simp] theorem State.setCache_par (x : Cache) : (s.setCache x).par = s.par := rfl
@[simp] theorem State.setCache_regs (x : Cache) : (s.setCache x).regs = s.regs := rfl
@[simp] theorem State.setCache_txFifo (x : Cache) : (s.setCache x).txFifo = s.txFifo := rfl
@[simp] theorem State.setCache_rxFifo (x : Cache) : (s.setCache x).rxFifo = s.rxFifo := rfl
@[simp] theorem State.setCache_ser (x : Cache) : (s.setCache x).ser = s.ser := rfl
@[simp] theorem State.setCache_seq (x : Cache) : (s.setCache x).seq = s.seq := rfl
@[simp] theorem State.setCache_cache (x : Cache) : (s.setCache x).cache = x := rfl
@[simp] theorem State.setCache_lock (x : Cache) : (s.setCache x).lock = s.lock := rfl
@[simp] theorem State.setCache_cs (x : Cache) : (s.setCache x).cs = s.cs := rfl
@[simp] theorem State.setCache_clk (x : Cache) : (s.setCache x).clk = s.clk := rfl
@[simp] theorem State.setCache_slots (x : Cache) : (s.setCache x).slots = s.slots := rfl
@[simp] theorem State.setCache_fault (x : Cache) : (s.setCache x).fault = s.fault := rfl
@[simp] theorem State.setCache_refused (x : Cache) : (s.setCache x).refused = s.refused := rfl
@[simp] theorem State.setCache_trace (x : Cache) : (s.setCache x).trace = s.trace := rfl
@[simp] theorem State.setCache_rdata (x : Cache) : (s.setCache x).rdata = s.rdata := rfl
@[simp] theorem State.setCache_mem (x : Cache) : (s.setCache x).mem = s.mem := rfl
@[simp] theorem State.setCache_env (x : Cache) : (s.setCache x).env = s.env := rfl

/-! ### setLock -/

@[simp] theorem State.setLock_par (x : Lock) : (s.setLock x).par = s.par := rfl
@[simp] theorem State.setLock_regs (x : Lock) : (s.setLock x).regs = s.regs := rfl
@[simp] theorem State.setLock_txFifo (x : Lock) : (s.setLock x).txFifo = s.txFifo := rfl
@[simp] theorem State.setLock_rxFifo (x : Lock) : (s.setLock x).rxFifo = s.rxFifo := rfl
@[simp] theorem State.setLock_ser (x : Lock) : (s.setLock x).ser = s.ser := rfl
@[simp] theorem State.setLock_seq (x : Lock) : (s.setLock x).seq = s.seq := rfl
@[simp] theorem State.setLock_cache (x : Lock) : (s.setLock x).cache = s.cache := rfl
@[simp] theorem State.setLock_lock (x : Lock) : (s.setLock x).lock = x := rfl
@[simp] theorem State.setLock_cs (x : Lock) : (s.setLock x).cs = s.cs := rfl
@[simp] theorem State.setLock_clk (x : Lock) : (s.setLock x).clk = s.clk := rfl
@[simp] theorem State.setLock_slots (x : Lock) : (s.setLock x).slots = s.slots := rfl
@[simp] theorem State.setLock_fault (x : Lock) : (s.setLock x).fault = s.fault := rfl
@[simp] theorem State.setLock_refused (x : Lock) : (s.setLock x).refused = s.refused := rfl
@[simp] theorem State.setLock_trace (x : Lock) : (s.setLock x).trace = s.trace := rfl
@[simp] theorem State.setLock_rdata (x : Lock) : (s.setLock x).rdata = s.rdata := rfl
@[simp] theorem State.setLock_mem (x : Lock) : (s.setLock x).mem = s.mem := rfl
@[simp] theorem State.setLock_env (x : Lock) : (s.setLock x).env = s.env := rfl

/-! ### setCs -/

@[simp] theorem State.setCs_par (x : Bool) : (s.setCs x).par = s.par := rfl
@[simp] theorem State.setCs_regs (x : Bool) : (s.setCs x).regs = s.regs := rfl
@[simp] theorem State.setCs_txFifo (x : Bool) : (s.setCs x).txFifo = s.txFifo := rfl
@[simp] theorem State.setCs_rxFifo (x : Bool) : (s.setCs x).rxFifo = s.rxFifo := rfl
@[simp] theorem State.setCs_ser (x : Bool) : (s.setCs x).ser = s.ser := rfl
@[simp] theorem State.setCs_seq (x : Bool) : (s.setCs x).seq = s.seq := rfl
@[simp] theorem State.setCs_cache (x : Bool) : (s.setCs x).cache = s.cache := rfl
@[simp] theorem State.setCs_lock (x : Bool) : (s.setCs x).lock = s.lock := rfl
@[simp] theorem State.setCs_cs (x : Bool) : (s.setCs x).cs = x := rfl
@[simp] theorem State.setCs_clk (x : Bool) : (s.setCs x).clk = s.clk := rfl
@[simp] theorem State.setCs_slots (x : Bool) : (s.setCs x).slots = s.slots := rfl
@[simp] theorem State.setCs_fault (x : Bool) : (s.setCs x).fault = s.fault := rfl
@[simp] theorem State.setCs_refused (x : Bool) : (s.setCs x).refused = s.refused := rfl
@[simp] theorem State.setCs_trace (x : Bool) : (s.setCs x).trace = s.trace := rfl
@[simp] theorem State.setCs_rdata (x : Bool) : (s.setCs x).rdata = s.rdata := rfl
@[simp] theorem State.setCs_mem (x : Bool) : (s.setCs x).mem = s.mem := rfl
@[simp] theorem State.setCs_env (x : Bool) : (s.setCs x).env = s.env := rfl

/-! ### setClk -/

@[simp] theorem State.setClk_par (x : Bool) : (s.setClk x).par = s.par := rfl
@[simp] theorem State.setClk_regs (x : Bool) : (s.setClk x).regs = s.regs := rfl
@[simp] theorem State.setClk_txFifo (x : Bool) : (s.setClk x).txFifo = s.txFifo := rfl
@[simp] theorem State.setClk_rxFifo (x : Bool) : (s.setClk x).rxFifo = s.rxFifo := rfl
@[simp] theorem State.setClk_ser (x : Bool) : (s.setClk x).ser = s.ser := rfl
@[simp] theorem State.setClk_seq (x : Bool) : (s.setClk x).seq = s.seq := rfl
@[simp] theorem State.setClk_cache (x : Bool) : (s.setClk x).cache = s.cache := rfl
@[simp] theorem State.setClk_lock (x : Bool) : (s.setClk x).lock = s.lock := rfl
@[simp] theorem State.setClk_cs (x : Bool) : (s.setClk x).cs = s.cs := rfl
@[simp] theorem State.setClk_clk (x : Bool) : (s.setClk x).clk = x := rfl
@[simp] theorem State.setClk_slots (x : Bool) : (s.setClk x).slots = s.slots := rfl
@[simp] theorem State.setClk_fault (x : Bool) : (s.setClk x).fault = s.fault := rfl
@[simp] theorem State.setClk_refused (x : Bool) : (s.setClk x).refused = s.refused := rfl
@[simp] theorem State.setClk_trace (x : Bool) : (s.setClk x).trace = s.trace := rfl
@[simp] theorem State.setClk_rdata (x : Bool) : (s.setClk x).rdata = s.rdata := rfl
@[simp] theorem State.setClk_mem (x : Bool) : (s.setClk x).mem = s.mem := rfl
@[simp] theorem State.setClk_env (x : Bool) : (s.setClk x).env = s.env := rfl

/-! ### setSlots -/

@[simp] theorem State.setSlots_par (x : List Slot) : (s.setSlots x).par = s.par := rfl
@[simp] theorem State.setSlots_regs (x : List Slot) : (s.setSlots x).regs = s.regs := rfl
@[simp] theorem State.setSlots_txFifo (x : List Slot) : (s.setSlots x).txFifo = s.txFifo := rfl
@[simp] theorem State.setSlots_rxFifo (x : List Slot) : (s.setSlots x).rxFifo = s.rxFifo := rfl
@[simp] theorem State.setSlots_ser (x : List Slot) : (s.setSlots x).ser = s.ser := rfl
@[simp] theorem State.setSlots_seq (x : List Slot) : (s.setSlots x).seq = s.seq := rfl
@[simp] theorem State.setSlots_cache (x : List Slot) : (s.setSlots x).cache = s.cache := rfl
@[simp] theorem State.setSlots_lock (x : List Slot) : (s.setSlots x).lock = s.lock := rfl
@[simp] theorem State.setSlots_cs (x : List Slot) : (s.setSlots x).cs = s.cs := rfl
@[simp] theorem State.setSlots_clk (x : List Slot) : (s.setSlots x).clk = s.clk := rfl
@[simp] theorem State.setSlots_slots (x : List Slot) : (s.setSlots x).slots = x := rfl
@[simp] theorem State.setSlots_fault (x : List Slot) : (s.setSlots x).fault = s.fault := rfl
@[simp] theorem State.setSlots_refused (x : List Slot) : (s.setSlots x).refused = s.refused := rfl
@[simp] theorem State.setSlots_trace (x : List Slot) : (s.setSlots x).trace = s.trace := rfl
@[simp] theorem State.setSlots_rdata (x : List Slot) : (s.setSlots x).rdata = s.rdata := rfl
@[simp] theorem State.setSlots_mem (x : List Slot) : (s.setSlots x).mem = s.mem := rfl
@[simp] theorem State.setSlots_env (x : List Slot) : (s.setSlots x).env = s.env := rfl

/-! ### setFault -/

@[simp] theorem State.setFault_par (x : Option Fault) : (s.setFault x).par = s.par := rfl
@[simp] theorem State.setFault_regs (x : Option Fault) : (s.setFault x).regs = s.regs := rfl
@[simp] theorem State.setFault_txFifo (x : Option Fault) : (s.setFault x).txFifo = s.txFifo := rfl
@[simp] theorem State.setFault_rxFifo (x : Option Fault) : (s.setFault x).rxFifo = s.rxFifo := rfl
@[simp] theorem State.setFault_ser (x : Option Fault) : (s.setFault x).ser = s.ser := rfl
@[simp] theorem State.setFault_seq (x : Option Fault) : (s.setFault x).seq = s.seq := rfl
@[simp] theorem State.setFault_cache (x : Option Fault) : (s.setFault x).cache = s.cache := rfl
@[simp] theorem State.setFault_lock (x : Option Fault) : (s.setFault x).lock = s.lock := rfl
@[simp] theorem State.setFault_cs (x : Option Fault) : (s.setFault x).cs = s.cs := rfl
@[simp] theorem State.setFault_clk (x : Option Fault) : (s.setFault x).clk = s.clk := rfl
@[simp] theorem State.setFault_slots (x : Option Fault) : (s.setFault x).slots = s.slots := rfl
@[simp] theorem State.setFault_fault (x : Option Fault) : (s.setFault x).fault = x := rfl
@[simp] theorem State.setFault_refused (x : Option Fault) : (s.setFault x).refused = s.refused := rfl
@[simp] theorem State.setFault_trace (x : Option Fault) : (s.setFault x).trace = s.trace := rfl
@[simp] theorem State.setFault_rdata (x : Option Fault) : (s.setFault x).rdata = s.rdata := rfl
@[simp] theorem State.setFault_mem (x : Option Fault) : (s.setFault x).mem = s.mem := rfl
@[simp] theorem State.setFault_env (x : Option Fault) : (s.setFault x).env = s.env := rfl

/-! ### setRefused -/

@[simp] theorem State.setRefused_par (x : Option Refusal) : (s.setRefused x).par = s.par := rfl
@[simp] theorem State.setRefused_regs (x : Option Refusal) : (s.setRefused x).regs = s.regs := rfl
@[simp] theorem State.setRefused_txFifo (x : Option Refusal) : (s.setRefused x).txFifo = s.txFifo := rfl
@[simp] theorem State.setRefused_rxFifo (x : Option Refusal) : (s.setRefused x).rxFifo = s.rxFifo := rfl
@[simp] theorem State.setRefused_ser (x : Option Refusal) : (s.setRefused x).ser = s.ser := rfl
@[simp] theorem State.setRefused_seq (x : Option Refusal) : (s.setRefused x).seq = s.seq := rfl
@[simp] theorem State.setRefused_cache (x : Option Refusal) : (s.setRefused x).cache = s.cache := rfl
@[simp] theorem State.setRefused_lock (x : Option Refusal) : (s.setRefused x).lock = s.lock := rfl
@[simp] theorem State.setRefused_cs (x : Option Refusal) : (s.setRefused x).cs = s.cs := rfl
@[simp] theorem State.setRefused_clk (x : Option Refusal) : (s.setRefused x).clk = s.clk := rfl
@[simp] theorem State.setRefused_slots (x : Option Refusal) : (s.setRefused x).slots = s.slots := rfl
@[simp] theorem State.setRefused_fault (x : Option Refusal) : (s.setRefused x).fault = s.fault := rfl
@[simp] theorem State.setRefused_refused (x : Option Refusal) : (s.setRefused x).refused = x := rfl
@[simp] theorem State.setRefused_trace (x : Option Refusal) : (s.setRefused x).trace = s.trace := rfl
@[simp] theorem State.setRefused_rdata (x : Option Refusal) : (s.setRefused x).rdata = s.rdata := rfl
@[simp] theorem State.setRefused_mem (x : Option Refusal) : (s.setRefused x).mem = s.mem := rfl
@[simp] theorem State.setRefused_env (x : Option Refusal) : (s.setRefused x).env = s.env := rfl

/-! ### setTrace -/

@[simp] theorem State.setTrace_par (x : List Event) : (s.setTrace x).par = s.par := rfl
@[simp] theorem State.setTrace_regs (x : List Event) : (s.setTrace x).regs = s.regs := rfl
@[simp] theorem State.setTrace_txFifo (x : List Event) : (s.setTrace x).txFifo = s.txFifo := rfl
@[simp] theorem State.setTrace_rxFifo (x : List Event) : (s.setTrace x).rxFifo = s.rxFifo := rfl
@[simp] theorem State.setTrace_ser (x : List Event) : (s.setTrace x).ser = s.ser := rfl
@[simp] theorem State.setTrace_seq (x : List Event) : (s.setTrace x).seq = s.seq := rfl
@[simp] theorem State.setTrace_cache (x : List Event) : (s.setTrace x).cache = s.cache := rfl
@[simp] theorem State.setTrace_lock (x : List Event) : (s.setTrace x).lock = s.lock := rfl
@[simp] theorem State.setTrace_cs (x : List Event) : (s.setTrace x).cs = s.cs := rfl
@[simp] theorem State.setTrace_clk (x : List Event) : (s.setTrace x).clk = s.clk := rfl
@[simp] theorem State.setTrace_slots (x : List Event) : (s.setTrace x).slots = s.slots := rfl
@[simp] theorem State.setTrace_fault (x : List Event) : (s.setTrace x).fault = s.fault := rfl
@[simp] theorem State.setTrace_refused (x : List Event) : (s.setTrace x).refused = s.refused := rfl
@[simp] theorem State.setTrace_trace (x : List Event) : (s.setTrace x).trace = x := rfl
@[simp] theorem State.setTrace_rdata (x : List Event) : (s.setTrace x).rdata = s.rdata := rfl
@[simp] theorem State.setTrace_mem (x : List Event) : (s.setTrace x).mem = s.mem := rfl
@[simp] theorem State.setTrace_env (x : List Event) : (s.setTrace x).env = s.env := rfl

/-! ### setRdata -/

@[simp] theorem State.setRdata_par (x : Word) : (s.setRdata x).par = s.par := rfl
@[simp] theorem State.setRdata_regs (x : Word) : (s.setRdata x).regs = s.regs := rfl
@[simp] theorem State.setRdata_txFifo (x : Word) : (s.setRdata x).txFifo = s.txFifo := rfl
@[simp] theorem State.setRdata_rxFifo (x : Word) : (s.setRdata x).rxFifo = s.rxFifo := rfl
@[simp] theorem State.setRdata_ser (x : Word) : (s.setRdata x).ser = s.ser := rfl
@[simp] theorem State.setRdata_seq (x : Word) : (s.setRdata x).seq = s.seq := rfl
@[simp] theorem State.setRdata_cache (x : Word) : (s.setRdata x).cache = s.cache := rfl
@[simp] theorem State.setRdata_lock (x : Word) : (s.setRdata x).lock = s.lock := rfl
@[simp] theorem State.setRdata_cs (x : Word) : (s.setRdata x).cs = s.cs := rfl
@[simp] theorem State.setRdata_clk (x : Word) : (s.setRdata x).clk = s.clk := rfl
@[simp] theorem State.setRdata_slots (x : Word) : (s.setRdata x).slots = s.slots := rfl
@[simp] theorem State.setRdata_fault (x : Word) : (s.setRdata x).fault = s.fault := rfl
@[simp] theorem State.setRdata_refused (x : Word) : (s.setRdata x).refused = s.refused := rfl
@[simp] theorem State.setRdata_trace (x : Word) : (s.setRdata x).trace = s.trace := rfl
@[simp] theorem State.setRdata_rdata (x : Word) : (s.setRdata x).rdata = x := rfl
@[simp] theorem State.setRdata_mem (x : Word) : (s.setRdata x).mem = s.mem := rfl
@[simp] theorem State.setRdata_env (x : Word) : (s.setRdata x).env = s.env := rfl

/-! ### setMem -/

@[simp] theorem State.setMem_par (x : List Host.Cell) : (s.setMem x).par = s.par := rfl
@[simp] theorem State.setMem_regs (x : List Host.Cell) : (s.setMem x).regs = s.regs := rfl
@[simp] theorem State.setMem_txFifo (x : List Host.Cell) : (s.setMem x).txFifo = s.txFifo := rfl
@[simp] theorem State.setMem_rxFifo (x : List Host.Cell) : (s.setMem x).rxFifo = s.rxFifo := rfl
@[simp] theorem State.setMem_ser (x : List Host.Cell) : (s.setMem x).ser = s.ser := rfl
@[simp] theorem State.setMem_seq (x : List Host.Cell) : (s.setMem x).seq = s.seq := rfl
@[simp] theorem State.setMem_cache (x : List Host.Cell) : (s.setMem x).cache = s.cache := rfl
@[simp] theorem State.setMem_lock (x : List Host.Cell) : (s.setMem x).lock = s.lock := rfl
@[simp] theorem State.setMem_cs (x : List Host.Cell) : (s.setMem x).cs = s.cs := rfl
@[simp] theorem State.setMem_clk (x : List Host.Cell) : (s.setMem x).clk = s.clk := rfl
@[simp] theorem State.setMem_slots (x : List Host.Cell) : (s.setMem x).slots = s.slots := rfl
@[simp] theorem State.setMem_fault (x : List Host.Cell) : (s.setMem x).fault = s.fault := rfl
@[simp] theorem State.setMem_refused (x : List Host.Cell) : (s.setMem x).refused = s.refused := rfl
@[simp] theorem State.setMem_trace (x : List Host.Cell) : (s.setMem x).trace = s.trace := rfl
@[simp] theorem State.setMem_rdata (x : List Host.Cell) : (s.setMem x).rdata = s.rdata := rfl
@[simp] theorem State.setMem_mem (x : List Host.Cell) : (s.setMem x).mem = x := rfl
@[simp] theorem State.setMem_env (x : List Host.Cell) : (s.setMem x).env = s.env := rfl

/-! ### setEnv -/

@[simp] theorem State.setEnv_par (x : Env) : (s.setEnv x).par = s.par := rfl
@[simp] theorem State.setEnv_regs (x : Env) : (s.setEnv x).regs = s.regs := rfl
@[simp] theorem State.setEnv_txFifo (x : Env) : (s.setEnv x).txFifo = s.txFifo := rfl
@[simp] theorem State.setEnv_rxFifo (x : Env) : (s.setEnv x).rxFifo = s.rxFifo := rfl
@[simp] theorem State.setEnv_ser (x : Env) : (s.setEnv x).ser = s.ser := rfl
@[simp] theorem State.setEnv_seq (x : Env) : (s.setEnv x).seq = s.seq := rfl
@[simp] theorem State.setEnv_cache (x : Env) : (s.setEnv x).cache = s.cache := rfl
@[simp] theorem State.setEnv_lock (x : Env) : (s.setEnv x).lock = s.lock := rfl
@[simp] theorem State.setEnv_cs (x : Env) : (s.setEnv x).cs = s.cs := rfl
@[simp] theorem State.setEnv_clk (x : Env) : (s.setEnv x).clk = s.clk := rfl
@[simp] theorem State.setEnv_slots (x : Env) : (s.setEnv x).slots = s.slots := rfl
@[simp] theorem State.setEnv_fault (x : Env) : (s.setEnv x).fault = s.fault := rfl
@[simp] theorem State.setEnv_refused (x : Env) : (s.setEnv x).refused = s.refused := rfl
@[simp] theorem State.setEnv_trace (x : Env) : (s.setEnv x).trace = s.trace := rfl
@[simp] theorem State.setEnv_rdata (x : Env) : (s.setEnv x).rdata = s.rdata := rfl
@[simp] theorem State.setEnv_mem (x : Env) : (s.setEnv x).mem = s.mem := rfl
@[simp] theorem State.setEnv_env (x : Env) : (s.setEnv x).env = x := rfl

/-! ### The derived operations, by setters -/

@[simp] theorem State.emit_by_setters (e : Event) :
    s.emit e = s.setTrace (s.trace ++ [e]) := rfl
@[simp] theorem State.halt_fault_by_setters (f : Fault) :
    s.halt (.fault f) = s.setFault (some f) := rfl
@[simp] theorem State.halt_refusal_by_setters (r : Refusal) :
    s.halt (.refusal r) = s.setRefused (some r) := rfl
@[simp] theorem State.writeCr0_by_setters (v : Word) :
    s.writeCr0 v = s.setRegs { s.regs with cr0 := v.extractLsb' 0 16 } := rfl
@[simp] theorem State.writeCr1_by_setters (v : Word) :
    s.writeCr1 v = s.setRegs { s.regs with cr1 := v.extractLsb' 0 4 } := rfl
@[simp] theorem State.writeCpsr_by_setters (v : Word) :
    s.writeCpsr v = s.setRegs { s.regs with cpsr := v.extractLsb' 1 7 } := rfl
@[simp] theorem State.writeImsc_by_setters (v : Word) :
    s.writeImsc v = s.setRegs { s.regs with imsc := v.extractLsb' 0 4 } := rfl
@[simp] theorem State.writeDmacr_by_setters (v : Word) :
    s.writeDmacr v = s.setRegs { s.regs with dmacr := v.extractLsb' 0 3 } := rfl
@[simp] theorem State.setRorris_by_setters (b : Bool) :
    s.setRorris b = s.setRegs { s.regs with rorris := b } := rfl
@[simp] theorem State.setRtris_by_setters (b : Bool) :
    s.setRtris b = s.setRegs { s.regs with rtris := b } := rfl
@[simp] theorem State.pushTx_by_setters (e : Entry) :
    s.pushTx e = s.setTxFifo (s.txFifo ++ [e]) := rfl
@[simp] theorem State.pushRx_by_setters (e : Entry) :
    s.pushRx e = s.setRxFifo (s.rxFifo ++ [e]) := rfl
@[simp] theorem State.memWrite_by_setters (a : Addr) (v : Byte) :
    s.memWrite a v = s.setMem (memPut s.mem a.toNat v) := rfl
@[simp] theorem State.setSlot_by_setters (k : Nat) (v : Slot) :
    s.setSlot k v = s.setSlots (s.slots.set k v) := rfl
@[simp] theorem State.freeLock_by_setters :
    s.freeLock = s.setLock .free := rfl
@[simp] theorem State.driveCs_by_setters (b : Bool) :
    s.driveCs b = (s.setCs b).setTrace (s.trace ++ [.cs b]) := rfl
@[simp] theorem State.finish_by_setters (k : Nat) (c : ResultCode) :
    s.finish k c = (s.setSlots (s.slots.set k (.done c))).setTrace (s.trace ++ [.result k c]) := rfl
@[simp] theorem State.goto_by_setters (q : SeqState) :
    s.goto q = s.setSeq { s.seq with state := q } := rfl
@[simp] theorem State.drawn_by_setters :
    s.drawn = s.setEnv { s.env with draws := s.env.draws + 1 } := rfl

end Sys2Proof.Machine
end

