-- ==== Sys2Proof/Laws/Exec.lean ====
section
/-! SUPPORT. Everything a request can do, said once: the outcomes of a BUS read, a BUS write and a command, and the cases
of exec's next states, which every invariant is read off from. -/
namespace Sys2Proof.Machine

/-! ### The shared operations -/

/-- A transaction's guard lets it through exactly when the clock is on and, for a write or a DR read, SEQ is idle. -/
theorem busGuard_none_iff (b : BitVec 9) (s : State) :
    busGuard b s = none ↔ s.clk = true ∧ (s.seq.op = .none ∨ ¬ (selWrite b = true ∨ b = 0x108)) := by
  unfold busGuard
  cases s.clk <;> by_cases h : s.seq.op = .none <;> simp [h]

/-- A BUS read stops without any other change, or follows its rule with the clock on. -/
theorem busRead_cases (b : BitVec 9) (rule : State → State) (s : State) :
    (∃ stop, busRead b rule s = s.halt stop) ∨
      (s.clk = true ∧ (s.seq.op = .none ∨ ¬ (selWrite b = true ∨ b = 0x108)) ∧ busRead b rule s = rule s) := by
  unfold busRead
  split
  · exact .inl ⟨_, rfl⟩
  · rename_i h
    exact .inr ⟨((busGuard_none_iff b s).1 h).1, ((busGuard_none_iff b s).1 h).2, rfl⟩

/-- A BUS write stops without any other change, or emits its REGW event and follows its rule, with the clock on and no
command running. -/
theorem busWrite_cases (b : BitVec 9) (hb : selWrite b = true) (wdata : Word) (own : Option Stop) (rule : State → State)
    (s : State) :
    (∃ stop, busWrite b wdata own rule s = s.halt stop) ∨
      (s.clk = true ∧ s.seq.op = .none ∧ own = none ∧
        busWrite b wdata own rule s = rule (s.emit (.regw .host (selOff b) wdata))) := by
  unfold busWrite
  split
  · exact .inl ⟨_, rfl⟩
  · rename_i h
    have h' := (busGuard_none_iff b s).1 h
    split
    · exact .inl ⟨_, rfl⟩
    · exact .inr ⟨h'.1, by simpa [hb] using h'.2, rfl, rfl⟩

/-- A command lets its own check run exactly when the clock is on (or it is INIT), the client has no command pending,
and the CFG's reserved bits are 0. -/
theorem cmdGuard_none_iff (op : BitVec 4) (k : Nat) (cfg : Option CfgWord) (s : State) :
    cmdGuard op k cfg s = none ↔
      (s.clk = true ∨ op = 0) ∧ (s.slot k).pending = false ∧ ∀ c, cfg = some c → cfgReserved c = 0 := by
  unfold cmdGuard
  cases hc : s.clk <;> cases hp : (s.slot k).pending <;> by_cases ho : op = 0#4 <;> cases cfg <;> simp [ho]

/-- A command stops without any other change, or takes its issue step. -/
theorem command_cases {op : BitVec 4} {k : Nat} {cfg : Option CfgWord} {own : Option Stop} {issue : State → State}
    {s t : State} (h : command op k cfg own issue s = .next t) :
    k < s.nClients ∧
      ((∃ stop, t = s.halt stop) ∨
        ((s.clk = true ∨ op = 0) ∧ (s.slot k).pending = false ∧ own = none ∧ t = issue s)) := by
  unfold command at h
  split at h
  · rename_i hk
    refine ⟨hk, ?_⟩
    split at h
    · exact .inl ⟨_, by simpa using h.symm⟩
    · rename_i hg
      have hg' := (cmdGuard_none_iff op k cfg s).1 hg
      split at h
      · exact .inl ⟨_, by simpa using h.symm⟩
      · exact .inr ⟨hg'.1, hg'.2.1, rfl, by simpa using h.symm⟩
  · cases h

/-! ### The next states of exec -/

/-- The shapes a next state of exec can have. -/
inductive ExecEffect (s : State) : State → Prop where
  /-- A fault or a refusal was recorded. -/
  | halt (stop : Stop) : ExecEffect s (s.halt stop)
  /-- A read returned a value. -/
  | read (v : Word) (clk : s.clk = true) : ExecEffect s (s.setRdata v)
  /-- A read returned a free value. -/
  | readFree (v : Word) (clk : s.clk = true) : ExecEffect s (s.drawn.setRdata v)
  /-- A read of DR popped RXFIFO. -/
  | readPop (e : Entry) (rest : List Entry) (clk : s.clk = true) (idle : s.seq.op = .none) (rx : s.rxFifo = e :: rest) :
      ExecEffect s ((s.setRxFifo rest).setRdata (e.setWidth 32))
  /-- A write changed registers, or nothing. Only WR_ICR touches RORRIS and RTRIS, and it can only clear them. -/
  | write (off : BitVec 6) (w : Word) (r : Regs) (clk : s.clk = true) (idle : s.seq.op = .none)
      (ror : r.rorris = true → s.regs.rorris = true) (rt : r.rtris = true → s.regs.rtris = true)
      (sse : s.ser.busy = true → s.regs.sse = true → r.sse = true)
      (dma : s.regs.dmacr = 0 → r.dmacr = 0) :
      ExecEffect s ((s.emit (.regw .host off w)).setRegs r)
  /-- A write of DR pushed TXFIFO. -/
  | push (w : Word) (clk : s.clk = true) (idle : s.seq.op = .none) (room : s.txFifo.length < s.par.fifoDepth) :
      ExecEffect s ((s.emit (.regw .host 0x08 w)).pushTx (w.extractLsb' 0 16))
  /-- INIT. -/
  | init (k : Nat) (client : k < s.nClients) (free : (s.slot k).pending = false) (idle : s.seq.op = .none) :
      ExecEffect s (issueInit k s)
  /-- CONFIGURE started. -/
  | configure (k : Nat) (cfg : CfgWord) (client : k < s.nClients) (free : (s.slot k).pending = false) (clk : s.clk = true)
      (idle : s.seq.op = .none) : ExecEffect s (issueConfigure k cfg s)
  /-- TRANSCEIVE waits for the lock. -/
  | transceive (k : Nat) (cfg : CfgWord) (tx rx : BufSet) (client : k < s.nClients) (free : (s.slot k).pending = false)
      (clk : s.clk = true) (short : bufLen tx < 2 ^ 32 ∧ bufLen rx < 2 ^ 32) :
      ExecEffect s (s.setSlot k (.waitLock cfg tx rx))
  /-- RELEASE polls the busy flag. -/
  | release (k : Nat) (client : k < s.nClients) (free : (s.slot k).pending = false) (clk : s.clk = true) :
      ExecEffect s (s.setSlot k .relWait)
  /-- TRANSCEIVE_ASYNC answered. -/
  | async (k : Nat) (client : k < s.nClients) (free : (s.slot k).pending = false) (clk : s.clk = true) :
      ExecEffect s (s.finish k .notSupported)

/-- A read that only sets RDATA. -/
theorem execEffect_busRead (b : BitVec 9) (f : State → Word) (s : State) :
    ExecEffect s (busRead b (fun t => t.setRdata (f t)) s) := by
  obtain ⟨stop, h⟩ | ⟨hc, -, h⟩ := busRead_cases b (fun t => t.setRdata (f t)) s
  · rw [h]; exact .halt stop
  · rw [h]; exact .read _ hc

/-- A write whose rule replaces the registers, without setting a latched interrupt bit, without clearing SSE during a
frame, and without enabling DMA. -/
theorem execEffect_busWrite (b : BitVec 9) (hb : selWrite b = true) (w : Word) (own : Option Stop) (rule : State → State)
    (f : Regs → Regs) (s : State) (hrule : ∀ t : State, rule t = t.setRegs (f t.regs))
    (hror : (f s.regs).rorris = true → s.regs.rorris = true) (hrt : (f s.regs).rtris = true → s.regs.rtris = true)
    (hsse : own = none → s.ser.busy = true → s.regs.sse = true → (f s.regs).sse = true)
    (hdma : own = none → s.regs.dmacr = 0 → (f s.regs).dmacr = 0) :
    ExecEffect s (busWrite b w own rule s) := by
  obtain ⟨stop, h⟩ | ⟨hc, hi, ho, h⟩ := busWrite_cases b hb w own rule s
  · rw [h]; exact .halt stop
  · rw [h, hrule]
    exact .write _ w _ hc hi hror hrt (hsse ho) (hdma ho)

theorem sse_of_write {s : State} {w : Word} (h : cr1Check w s = none) (hb : s.ser.busy = true) (hs : s.regs.sse = true) :
    w.getLsbD 1 = true := by
  unfold cr1Check at h
  split at h
  · cases h
  · rename_i hn
    simpa [hb, hs] using hn

theorem dma_of_write {w : Word} (h : dmaCheck w = none) : w.extractLsb' 0 3 = 0 := by
  unfold dmaCheck at h
  split at h
  · cases h
  · rename_i hn
    simpa using hn

theorem seqBusyCheck_none {f : Fault} {s : State} (h : seqBusyCheck f s = none) : s.seq.op = .none := by
  unfold seqBusyCheck at h
  split at h
  · assumption
  · cases h

theorem lengthCheck_none {tx rx : BufSet} (h : lengthCheck tx rx = none) : bufLen tx < 2 ^ 32 ∧ bufLen rx < 2 ^ 32 := by
  unfold lengthCheck at h
  split at h
  · cases h
  · rename_i hn
    omega

/-- Every next state of exec has one of the shapes of ExecEffect. -/
theorem exec_effect {i : Instr} {s t : State} (h : exec i s = .next t) : ExecEffect s t := by
  cases i with
  | rdCr0 => cases h; exact execEffect_busRead _ _ s
  | rdCr1 => cases h; exact execEffect_busRead _ _ s
  | rdSr => cases h; exact execEffect_busRead _ _ s
  | rdCpsr => cases h; exact execEffect_busRead _ _ s
  | rdImsc => cases h; exact execEffect_busRead _ _ s
  | rdRis => cases h; exact execEffect_busRead _ _ s
  | rdMis => cases h; exact execEffect_busRead _ _ s
  | rdDmacr => cases h; exact execEffect_busRead _ _ s
  | rdIcr =>
    cases h
    obtain ⟨stop, h⟩ | ⟨hc, -, h⟩ := busRead_cases 0x120 drawIcr s
    · rw [h]; exact .halt stop
    · rw [h]; exact .readFree _ hc
  | rdDr =>
    cases h
    obtain ⟨stop, h⟩ | ⟨hc, hi, h⟩ := busRead_cases 0x108 popDr s
    · rw [h]; exact .halt stop
    · rw [h]
      have hi' : s.seq.op = .none := by simpa using hi
      unfold popDr
      split
      · exact .readPop _ _ hc hi' (by assumption)
      · exact .readFree _ hc
  | wrCr0 w =>
    cases h
    exact execEffect_busWrite _ rfl w _ _ (fun r => { r with cr0 := w.extractLsb' 0 16 }) s (fun _ => rfl) id id
      (fun _ _ h => h) (fun _ h => h)
  | wrCr1 w =>
    cases h
    refine execEffect_busWrite _ rfl w _ _ (fun r => { r with cr1 := w.extractLsb' 0 4 }) s (fun _ => rfl) id id
      (fun ho hb hs => ?_) (fun _ h => h)
    have := sse_of_write ho hb hs
    simp [Regs.sse, this]
  | wrDr w =>
    cases h
    obtain ⟨stop, h⟩ | ⟨hc, hi, -, h⟩ := busWrite_cases 0x148 rfl w none (pushDr w) s
    · rw [h]; exact .halt stop
    · rw [h]
      unfold pushDr
      split
      · rename_i hl
        exact .push w hc hi (by simpa using hl)
      · exact .write (selOff 0x148) w s.regs hc hi id id (fun _ h => h) id
  | wrSr w =>
    cases h
    exact execEffect_busWrite _ rfl w _ _ id s (fun _ => rfl) id id (fun _ _ h => h) (fun _ h => h)
  | wrCpsr w =>
    cases h
    exact execEffect_busWrite _ rfl w _ _ (fun r => { r with cpsr := w.extractLsb' 1 7 }) s (fun _ => rfl) id id
      (fun _ _ h => h) (fun _ h => h)
  | wrImsc w =>
    cases h
    exact execEffect_busWrite _ rfl w _ _ (fun r => { r with imsc := w.extractLsb' 0 4 }) s (fun _ => rfl) id id
      (fun _ _ h => h) (fun _ h => h)
  | wrRis w =>
    cases h
    exact execEffect_busWrite _ rfl w _ _ id s (fun _ => rfl) id id (fun _ _ h => h) (fun _ h => h)
  | wrMis w =>
    cases h
    exact execEffect_busWrite _ rfl w _ _ id s (fun _ => rfl) id id (fun _ _ h => h) (fun _ h => h)
  | wrIcr w =>
    cases h
    refine execEffect_busWrite _ rfl w _ _
      (fun r => { r with
        rorris := if w.getLsbD 0 then false else r.rorris
        rtris := if w.getLsbD 1 then false else r.rtris }) s (fun _ => rfl) ?_ ?_ (fun _ _ h => h) (fun _ h => h)
    · cases w.getLsbD 0 <;> simp
    · cases w.getLsbD 1 <;> simp
  | wrDmacr w =>
    cases h
    exact execEffect_busWrite _ rfl w _ _ (fun r => { r with dmacr := w.extractLsb' 0 3 }) s (fun _ => rfl) id id
      (fun _ _ h => h) (fun ho _ => dma_of_write ho)
  | init k =>
    simp only [exec, execInit] at h
    obtain ⟨hk, ⟨stop, rfl⟩ | ⟨-, hp, ho, rfl⟩⟩ := command_cases h
    · exact .halt stop
    · exact .init k hk hp (seqBusyCheck_none ho)
  | configure k cfg =>
    simp only [exec, execConfigure] at h
    obtain ⟨hk, ⟨stop, rfl⟩ | ⟨hc, hp, ho, rfl⟩⟩ := command_cases h
    · exact .halt stop
    · exact .configure k cfg hk hp (by simpa using hc) (seqBusyCheck_none ho)
  | transceive k cfg tx rx =>
    simp only [exec, execTransceive] at h
    obtain ⟨hk, ⟨stop, rfl⟩ | ⟨hc, hp, ho, rfl⟩⟩ := command_cases h
    · exact .halt stop
    · exact .transceive k cfg tx rx hk hp (by simpa using hc) (lengthCheck_none ho)
  | release k cfg =>
    simp only [exec, execRelease] at h
    obtain ⟨hk, ⟨stop, rfl⟩ | ⟨hc, hp, -, rfl⟩⟩ := command_cases h
    · exact .halt stop
    · exact .release k hk hp (by simpa using hc)
  | transceiveAsync k cfg tx rx =>
    simp only [exec, execTransceiveAsync] at h
    obtain ⟨hk, ⟨stop, rfl⟩ | ⟨hc, hp, -, rfl⟩⟩ := command_cases h
    · exact .halt stop
    · exact .async k hk hp (by simpa using hc)

end Sys2Proof.Machine
end

