-- ==== Sys2Proof/Laws/Memory.lean ====
section
/-! SUPPORT. System memory: reading after writing, and that every write keeps the canonical form. -/
namespace Sys2Proof.Machine

theorem memWfFrom_mono {lo lo' : Nat} (h : lo' ≤ lo) : ∀ m, memWfFrom lo m = true → memWfFrom lo' m = true
  | [], _ => rfl
  | (a, v) :: m, hm => by
    simp only [memWfFrom, Bool.and_eq_true, decide_eq_true_eq] at hm ⊢
    exact ⟨⟨⟨by omega, hm.1.1.2⟩, hm.1.2⟩, hm.2⟩

/-- Below the first address of a canonical list every byte is unlisted. -/
theorem memGet_below : ∀ (m : List Host.Cell) {lo k : Nat}, memWfFrom lo m = true → k < lo → memGet m k = unlistedByte
  | [], _, _, _, _ => rfl
  | (a, v) :: m, lo, k, hm, hk => by
    simp only [memWfFrom, Bool.and_eq_true, decide_eq_true_eq] at hm
    have h1 : ¬ k = a := by omega
    have h2 : k < a := by omega
    simp [memGet, h1, h2]

theorem memPut_wfFrom (k : Nat) (v : Byte) (hk : k < 2 ^ 32) :
    ∀ (m : List Host.Cell) {lo : Nat}, lo ≤ k → memWfFrom lo m = true → memWfFrom lo (memPut m k v) = true
  | [], lo, hlo, _ => by
    unfold memPut
    split
    · rfl
    · simp_all [memWfFrom]
  | (a, w) :: m, lo, hlo, hm => by
    have hm' := hm
    simp only [memWfFrom, Bool.and_eq_true, decide_eq_true_eq] at hm
    obtain ⟨⟨⟨h1, h2⟩, h3⟩, h4⟩ := hm
    unfold memPut
    split
    · rename_i hka
      split
      · exact hm'
      · rename_i hv
        simp only [memWfFrom, Bool.and_eq_true, decide_eq_true_eq]
        exact ⟨⟨⟨hlo, hk⟩, by simpa using hv⟩, ⟨⟨⟨by omega, h2⟩, h3⟩, h4⟩⟩
    · split
      · rename_i hka
        subst hka
        split
        · exact memWfFrom_mono (by omega) m h4
        · rename_i hv
          simp only [memWfFrom, Bool.and_eq_true, decide_eq_true_eq]
          exact ⟨⟨⟨h1, h2⟩, by simpa using hv⟩, h4⟩
      · simp only [memWfFrom, Bool.and_eq_true, decide_eq_true_eq]
        exact ⟨⟨⟨h1, h2⟩, h3⟩, memPut_wfFrom k v hk m (by omega) h4⟩

/-- A byte write keeps the canonical form. -/
theorem memPut_wf {m : List Host.Cell} (k : Nat) (v : Byte) (hk : k < 2 ^ 32) (hm : memWf m = true) :
    memWf (memPut m k v) = true :=
  memPut_wfFrom k v hk m (Nat.zero_le k) hm

/-- A write leaves every other byte alone, in any list. -/
theorem memGet_memPut_other {k j : Nat} (v : Byte) (hj : j ≠ k) :
    ∀ (m : List Host.Cell) {lo : Nat}, memWfFrom lo m = true → memGet (memPut m k v) j = memGet m j
  | [], _, _ => by
    unfold memPut
    split <;> simp [memGet, hj]
  | (a, w) :: m, lo, hm => by
    simp only [memWfFrom, Bool.and_eq_true, decide_eq_true_eq] at hm
    unfold memPut
    split
    · rename_i hka
      split
      · rfl
      · by_cases h : j < k
        · have h1 : ¬ j = a := by omega
          have h2 : j < a := by omega
          simp [memGet, hj, h, h1, h2]
        · simp [memGet, hj, h]
    · split
      · rename_i hka
        subst hka
        split
        · by_cases h : j < k
          · rw [memGet_below m hm.2 (by omega)]
            simp [memGet, hj, h]
          · simp [memGet, hj, h]
        · simp [memGet, hj]
      · simp only [memGet, memGet_memPut_other v hj m hm.2]

/-- A read after a write to the same address gives the byte written. -/
theorem memGet_memPut_same (k : Nat) (v : Byte) :
    ∀ (m : List Host.Cell) {lo : Nat}, memWfFrom lo m = true → memGet (memPut m k v) k = v
  | [], _, _ => by
    unfold memPut
    split <;> simp_all [memGet]
  | (a, w) :: m, lo, hm => by
    simp only [memWfFrom, Bool.and_eq_true, decide_eq_true_eq] at hm
    unfold memPut
    split
    · rename_i hka
      have h1 : ¬ k = a := by omega
      split
      · simp_all [memGet]
      · simp [memGet]
    · rename_i hka
      split
      · rename_i h
        subst h
        split
        · rename_i hv
          rw [memGet_below m hm.2 (by omega), hv]
        · simp [memGet]
      · rename_i h
        simp [memGet, h, hka, memGet_memPut_same k v m hm.2]

/-- A store followed by a load of the same byte. -/
theorem memRead_memWrite_same (s : State) (a : Addr) (v : Byte) (hm : memWf s.mem = true) :
    (s.memWrite a v).memRead a = v :=
  memGet_memPut_same a.toNat v s.mem hm

/-- A store leaves every other byte alone. -/
theorem memRead_memWrite_other (s : State) {a b : Addr} (v : Byte) (hm : memWf s.mem = true) (hb : b ≠ a) :
    (s.memWrite a v).memRead b = s.memRead b :=
  memGet_memPut_other v (fun h => hb (BitVec.eq_of_toNat_eq h)) s.mem hm

/-- A store keeps the canonical form. -/
theorem memWrite_wf (s : State) (a : Addr) (v : Byte) (hm : memWf s.mem = true) : memWf (s.memWrite a v).mem = true :=
  memPut_wf a.toNat v a.isLt hm

end Sys2Proof.Machine
end

