-- ==== Sys2Proof/Laws/PerInstr.lean ====
section
/-! SUPPORT. One lemma per instruction: its encoding is a request that the interface admits. -/
namespace Sys2Proof.Laws.Admitted

/-- What both interfaces require of a request: a 32-bit access to one of the ten register offsets (30_encoding.md R64),
or an OP of R67's table (R71). -/
def admits : Request → Prop
  | .bus r =>
    Machine.selSize r.selector = 2 ∧ (Machine.selOff r.selector).toNat % 4 = 0 ∧
      (Machine.selOff r.selector).toNat < 0x28
  | .cmd _ c => c.op.toNat < 5

/-- A BUS request is admitted by its selector alone. -/
theorem admits_bus (b : BitVec 9) (wdata : Word)
    (h : Machine.selSize b = 2 ∧ (Machine.selOff b).toNat % 4 = 0 ∧ (Machine.selOff b).toNat < 0x28) :
    admits (.bus { selector := b, wdata := wdata }) :=
  h

/-- The instruction's encoding is admitted. -/
def Statement (i : Instr) : Prop := admits (encode i)

theorem rdCr0 : Statement .rdCr0 := admits_bus 0x100 0 (by decide)
theorem wrCr0 (wdata : Word) : Statement (.wrCr0 wdata) := admits_bus 0x140 wdata (by decide)
theorem rdCr1 : Statement .rdCr1 := admits_bus 0x104 0 (by decide)
theorem wrCr1 (wdata : Word) : Statement (.wrCr1 wdata) := admits_bus 0x144 wdata (by decide)
theorem rdDr : Statement .rdDr := admits_bus 0x108 0 (by decide)
theorem wrDr (wdata : Word) : Statement (.wrDr wdata) := admits_bus 0x148 wdata (by decide)
theorem rdSr : Statement .rdSr := admits_bus 0x10C 0 (by decide)
theorem wrSr (wdata : Word) : Statement (.wrSr wdata) := admits_bus 0x14C wdata (by decide)
theorem rdCpsr : Statement .rdCpsr := admits_bus 0x110 0 (by decide)
theorem wrCpsr (wdata : Word) : Statement (.wrCpsr wdata) := admits_bus 0x150 wdata (by decide)
theorem rdImsc : Statement .rdImsc := admits_bus 0x114 0 (by decide)
theorem wrImsc (wdata : Word) : Statement (.wrImsc wdata) := admits_bus 0x154 wdata (by decide)
theorem rdRis : Statement .rdRis := admits_bus 0x118 0 (by decide)
theorem wrRis (wdata : Word) : Statement (.wrRis wdata) := admits_bus 0x158 wdata (by decide)
theorem rdMis : Statement .rdMis := admits_bus 0x11C 0 (by decide)
theorem wrMis (wdata : Word) : Statement (.wrMis wdata) := admits_bus 0x15C wdata (by decide)
theorem rdIcr : Statement .rdIcr := admits_bus 0x120 0 (by decide)
theorem wrIcr (wdata : Word) : Statement (.wrIcr wdata) := admits_bus 0x160 wdata (by decide)
theorem rdDmacr : Statement .rdDmacr := admits_bus 0x124 0 (by decide)
theorem wrDmacr (wdata : Word) : Statement (.wrDmacr wdata) := admits_bus 0x164 wdata (by decide)
theorem init (k : Nat) : Statement (.init k) := show (0 : Nat) < 5 by decide
theorem configure (k : Nat) (cfg : CfgWord) : Statement (.configure k cfg) := show (1 : Nat) < 5 by decide
theorem transceive (k : Nat) (cfg : CfgWord) (tx rx : BufSet) : Statement (.transceive k cfg tx rx) := show (2 : Nat) < 5 by decide
theorem release (k : Nat) (cfg : CfgWord) : Statement (.release k cfg) := show (3 : Nat) < 5 by decide
theorem transceiveAsync (k : Nat) (cfg : CfgWord) (tx rx : BufSet) : Statement (.transceiveAsync k cfg tx rx) := show (4 : Nat) < 5 by decide

end Sys2Proof.Laws.Admitted
end

