-- ==== Sys2Proof/Laws/Slots.lean ====
section
/-! SUPPORT. Command slots: reading a slot after a slot was written, after any other field was, and which clients
can hold a command. -/
namespace Sys2Proof.Machine

variable (s : State) (k : Nat)

@[simp] theorem State.slot_setRegs (x : Regs) : (s.setRegs x).slot k = s.slot k := rfl
@[simp] theorem State.slot_setTxFifo (x : List Entry) : (s.setTxFifo x).slot k = s.slot k := rfl
@[simp] theorem State.slot_setRxFifo (x : List Entry) : (s.setRxFifo x).slot k = s.slot k := rfl
@[simp] theorem State.slot_setSer (x : Ser) : (s.setSer x).slot k = s.slot k := rfl
@[simp] theorem State.slot_setSeq (x : Seq) : (s.setSeq x).slot k = s.slot k := rfl
@[simp] theorem State.slot_setCache (x : Cache) : (s.setCache x).slot k = s.slot k := rfl
@[simp] theorem State.slot_setLock (x : Lock) : (s.setLock x).slot k = s.slot k := rfl
@[simp] theorem State.slot_setCs (x : Bool) : (s.setCs x).slot k = s.slot k := rfl
@[simp] theorem State.slot_setClk (x : Bool) : (s.setClk x).slot k = s.slot k := rfl
@[simp] theorem State.slot_setFault (x : Option Fault) : (s.setFault x).slot k = s.slot k := rfl
@[simp] theorem State.slot_setRefused (x : Option Refusal) : (s.setRefused x).slot k = s.slot k := rfl
@[simp] theorem State.slot_setTrace (x : List Event) : (s.setTrace x).slot k = s.slot k := rfl
@[simp] theorem State.slot_setRdata (x : Word) : (s.setRdata x).slot k = s.slot k := rfl
@[simp] theorem State.slot_setMem (x : List Host.Cell) : (s.setMem x).slot k = s.slot k := rfl
@[simp] theorem State.slot_setEnv (x : Env) : (s.setEnv x).slot k = s.slot k := rfl

/-- The slot list read directly is the slot. -/
@[simp] theorem State.slots_getElem_getD : s.slots[k]?.getD .empty = s.slot k := rfl

/-- Right after reset every slot is EMPTY. -/
@[simp] theorem State.slot_initial (p : Params) (n : Nat) (m : List Host.Cell) : (State.initial p n m).slot k = .empty := by
  simp only [State.slot, State.initial, List.getElem?_replicate]
  split <;> rfl

/-- Right after reset every slot is EMPTY. -/
@[simp] theorem State.slot_resetInstance : s.resetInstance.slot k = .empty := State.slot_initial k s.par s.nClients s.mem

@[simp] theorem State.nClients_resetInstance : s.resetInstance.nClients = s.nClients :=
  List.length_replicate

@[simp] theorem State.par_resetInstance : s.resetInstance.par = s.par := rfl
@[simp] theorem State.mem_resetInstance : s.resetInstance.mem = s.mem := rfl

/-- Reading a slot after writing one of any slot list. -/
theorem State.slot_setSlots_set {l : List Slot} {k : Nat} (hk : k < l.length) (j : Nat) (v : Slot) :
    (s.setSlots (l.set k v)).slot j = if j = k then v else l[j]?.getD .empty := by
  simp only [State.slot, State.setSlots_slots, List.getElem?_set, hk]
  by_cases h : j = k
  · simp [h]
  · simp [h, Ne.symm h]

/-- Only a client that exists has a slot that is not EMPTY. -/
theorem State.slot_client {k : Nat} (h : s.slot k ≠ .empty) : k < s.slots.length := by
  by_cases hk : k < s.slots.length
  · exact hk
  · exact absurd (by simp [State.slot, List.getElem?_eq_none (by omega : s.slots.length ≤ k)]) h

end Sys2Proof.Machine
end

