-- ==== Sys2Proof/Laws/Step.lean ====
section
/-! SUPPORT. Everything a step can do, said once: a next state of `step` comes from a running state by one agent's step,
and a request ends in a recorded stop or in one of exec's shapes. -/
namespace Sys2Proof.Machine

/-- A state is halted exactly when a fault or a refusal is recorded. -/
theorem halted_none_iff (s : State) : s.halted = none ↔ s.fault = none ∧ s.refused = none := by
  unfold State.halted
  cases s.fault <;> cases s.refused <;> simp

/-- A step to a next state is the next turn's step, from a state that has not stopped. -/
theorem step_next {s t : State} (h : step s = .next t) :
    s.fault = none ∧ s.refused = none ∧ runTurn s.nextTurn s.turnTaken = .next t := by
  unfold step at h
  split at h
  · cases h
  · cases h
  · rename_i hh
    exact ⟨((halted_none_iff s).1 hh).1, ((halted_none_iff s).1 hh).2, h⟩

/-- Choosing the next turn changes the schedule and the draw counter only. -/
theorem turnTaken_env (s : State) : ∃ e, s.turnTaken = s.setEnv e := by
  unfold State.turnTaken
  split <;> exact ⟨_, rfl⟩

/-- A request that does not decode records its fault. -/
theorem rejectRequest_next {e : DecodeError} {s t : State} (h : rejectRequest e s = .next t) :
    ∃ f, t = s.halt (.fault f) := by
  unfold rejectRequest at h
  split at h
  · exact ⟨_, by simpa using h.symm⟩
  · exact ⟨_, by simpa using h.symm⟩
  · split at h
    · exact ⟨_, by simpa using h.symm⟩
    · cases h

/-- Every next state of a request has one of the shapes of ExecEffect. -/
theorem runRequest_effect {r : Request} {s t : State} (h : runRequest r s = .next t) : ExecEffect s t := by
  unfold runRequest at h
  split at h
  · exact exec_effect h
  · obtain ⟨f, rfl⟩ := rejectRequest_next h
    exact .halt _

/-- The next states of a turn: a request's, or the named step's. -/
inductive TurnEffect (s : State) : Turn → State → Prop where
  | host (r : BusRequest) {t : State} (effect : ExecEffect s t) : TurnEffect s (.host r) t
  | client (k : Nat) (c : CmdRequest) {t : State} (effect : ExecEffect s t) : TurnEffect s (.client k c) t
  | relWait (k : Nat) : TurnEffect s (.relWait k) (relWaitStep k s)
  | acquire (k : Nat) : TurnEffect s (.acquire k) (acquireStep k s)
  | seq : TurnEffect s .seq (seqStep s)
  | frameStart : TurnEffect s .frameStart (frameStartStep s)
  | frameDone (miso : Byte) : TurnEffect s (.frameDone miso) (frameDoneStep miso s)
  | timeoutSet : TurnEffect s .timeoutSet (timeoutSetStep s)
  | timeoutClear : TurnEffect s .timeoutClear (timeoutClearStep s)
  | memWrite (a : Addr) (v : Byte) : TurnEffect s (.memWrite a v) (memWriteStep a v s)

/-- Every next state of a turn is one of these. -/
theorem runTurn_effect {u : Turn} {s t : State} (h : runTurn u s = .next t) : TurnEffect s u t := by
  cases u with
  | host r => exact .host r (runRequest_effect h)
  | client k c => exact .client k c (runRequest_effect h)
  | relWait k => cases h; exact .relWait k
  | acquire k => cases h; exact .acquire k
  | seq => cases h; exact .seq
  | frameStart => cases h; exact .frameStart
  | frameDone miso => cases h; exact .frameDone miso
  | timeoutSet => cases h; exact .timeoutSet
  | timeoutClear => cases h; exact .timeoutClear
  | memWrite a v => cases h; exact .memWrite a v

/-- Storing a received byte changes system memory only, and keeps its canonical form. -/
theorem rxStore_setMem (s : State) (i : BitVec 32) (v : Byte) :
    ∃ m, rxStore s i v = s.setMem m ∧ (memWf s.mem = true → memWf m = true) := by
  unfold rxStore
  split
  · split
    · exact ⟨_, rfl, fun h => memPut_wf _ _ (BitVec.isLt _) h⟩
    · exact ⟨s.mem, rfl, id⟩
  · exact ⟨s.mem, rfl, id⟩

/-- A DRAIN step that finds an entry pops it, stores its byte and moves the receive cursor on. -/
theorem drainStep_pop {s : State} {e : Entry} {rest : List Entry} (h : s.rxFifo = e :: rest) :
    ∃ m, drainStep s = ((s.setRxFifo rest).setMem m).setSeq { s.seq with popped := s.seq.popped + 1 } ∧
      (memWf s.mem = true → memWf m = true) := by
  obtain ⟨m, hm, hw⟩ := rxStore_setMem (s.setRxFifo rest) s.seq.popped (e.setWidth 8)
  exact ⟨m, by simp [drainStep, h, hm], hw⟩

/-- A DRAIN step that finds RXFIFO empty goes to DESELECT when both cursors are at N, else back to FILL. -/
theorem drainStep_empty {s : State} (h : s.rxFifo = []) :
    drainStep s = s.goto (if s.seq.pushed = s.seq.n ∧ s.seq.popped = s.seq.n then .deselect else .fill) := by
  unfold drainStep
  rw [h]
  dsimp only
  split <;> rfl

/-- An invariant that the schedule does not touch and every turn keeps is kept by every step. -/
theorem step_keeps {Inv : State → Prop} (henv : ∀ s e, Inv s → Inv (s.setEnv e))
    (hturn : ∀ u s t, Inv s → TurnEffect s u t → Inv t) {s t : State} (hs : Inv s) (h : step s = .next t) : Inv t := by
  obtain ⟨-, -, h⟩ := step_next h
  obtain ⟨e, he⟩ := turnTaken_env s
  rw [he] at h
  exact hturn _ _ _ (henv s e hs) (runTurn_effect h)

end Sys2Proof.Machine
end

