-- ==== Sys2Proof/Laws/Pump.lean ====
section
/-! SUPPORT. What a step of a run is, and everything a turn can do to a controller in its pump, said once: the lemmas
that the claims about progress (44_pump_engine.md R131) rest on. -/
namespace Sys2Proof.Machine

/-- A step that takes a given turn runs it on the state itself, which has not stopped. -/
theorem step_given {s t : State} {u : Turn} (h : step (s.given u) = .next t) :
    s.fault = none ∧ s.refused = none ∧ runTurn u s = .next t := step_next h

/-- What the steps that do not belong to the pump leave alone in it: SEQ, the registers a frame reads, SER's transmit
side, the clock and the parameters. -/
structure PumpFrame (s t : State) : Prop where
  seq : t.seq = s.seq
  cr0 : t.regs.cr0 = s.regs.cr0
  cr1 : t.regs.cr1 = s.regs.cr1
  cpsr : t.regs.cpsr = s.regs.cpsr
  txFifo : t.txFifo = s.txFifo
  clk : t.clk = s.clk
  par : t.par = s.par

/-- The next states of a turn taken in the pump. -/
inductive PumpEffect (s : State) : Turn → State → Prop where
  /-- A fault or a refusal was recorded. -/
  | stop (u : Turn) {t : State} (stopped : t.fault ≠ none ∨ t.refused ≠ none) : PumpEffect s u t
  /-- No step of the pump: another agent's step, or a step of SER that was not enabled. -/
  | other (u : Turn) {t : State} (notSeq : u ≠ .seq) (frame : PumpFrame s t) (rxFifo : t.rxFifo = s.rxFifo)
      (busy : t.ser.busy = s.ser.busy) (start : u = .frameStart → ¬ s.frameStartEnabled)
      (done : isFrameDone u → ¬ s.frameDoneEnabled) : PumpEffect s u t
  /-- A frame starts: an entry moves from TXFIFO into the shifter. -/
  | start {e : Entry} {rest : List Entry} (txFifo : s.txFifo = e :: rest) (idle : s.ser.busy = false) :
      PumpEffect s .frameStart ((s.setTxFifo rest).setSer ⟨true, e.setWidth 8, s.liveImage⟩)
  /-- A frame completes: its byte goes into RXFIFO, or is lost when RXFIFO is full. -/
  | done (miso : Byte) {t : State} (frame : PumpFrame s t) (busy : s.ser.busy = true) (idle : t.ser.busy = false)
      (rxFifo : (s.rxFifo.length < s.par.fifoDepth ∧ t.rxFifo.length = s.rxFifo.length + 1) ∨
        (s.par.fifoDepth ≤ s.rxFifo.length ∧ t.rxFifo = s.rxFifo)) : PumpEffect s (.frameDone miso) t
  | fill (state : s.seq.state = .fill) : PumpEffect s .seq (fillStep s)
  | drain (state : s.seq.state = .drain) : PumpEffect s .seq (drainStep s)

/-- A request in the pump records a stop or leaves the pump alone. -/
theorem pumpEffect_request {s t : State} {u : Turn} (hp : s.inPump) (hu : u ≠ .seq) (hs : u ≠ .frameStart)
    (hd : ¬ isFrameDone u) (h : ExecEffect s t) : PumpEffect s u t := by
  have hne : s.seq.op ≠ .none := by rw [hp.1]; decide
  cases h
  case halt stop => exact .stop _ (by cases stop <;> simp)
  case readPop hi _ => exact absurd hi hne
  case write hi _ _ _ _ => exact absurd hi hne
  case push hi _ => exact absurd hi hne
  case init hi => exact absurd hi hne
  case configure hi => exact absurd hi hne
  all_goals exact .other _ hu ⟨rfl, rfl, rfl, rfl, rfl, rfl, rfl⟩ rfl rfl (fun h => absurd h hs) (fun h => absurd h hd)

/-- Every turn taken in the pump has one of these effects. -/
theorem pump_effect {s t : State} {u : Turn} (hp : s.inPump) (h : runTurn u s = .next t) : PumpEffect s u t := by
  have hne : s.seq.op ≠ .none := by rw [hp.1]; decide
  have h := runTurn_effect h
  cases h with
  | host r h => exact pumpEffect_request hp (by simp) (by simp) (by rintro ⟨_, h⟩; cases h) h
  | client k c h => exact pumpEffect_request hp (by simp) (by simp) (by rintro ⟨_, h⟩; cases h) h
  | relWait k =>
    unfold relWaitStep
    (repeat' split) <;> exact .other _ (by simp) ⟨rfl, rfl, rfl, rfl, rfl, rfl, rfl⟩ rfl rfl (by simp) (by rintro ⟨_, h⟩; cases h)
  | acquire k =>
    unfold acquireStep
    split
    · rw [if_neg hne]
      exact .stop _ (by simp)
    · exact .other _ (by simp) ⟨rfl, rfl, rfl, rfl, rfl, rfl, rfl⟩ rfl rfl (by simp) (by rintro ⟨_, h⟩; cases h)
  | timeoutSet =>
    unfold timeoutSetStep
    split <;> exact .other _ (by simp) ⟨rfl, rfl, rfl, rfl, rfl, rfl, rfl⟩ rfl rfl (by simp) (by rintro ⟨_, h⟩; cases h)
  | timeoutClear =>
    unfold timeoutClearStep
    split <;> exact .other _ (by simp) ⟨rfl, rfl, rfl, rfl, rfl, rfl, rfl⟩ rfl rfl (by simp) (by rintro ⟨_, h⟩; cases h)
  | memWrite a v =>
    unfold memWriteStep
    split <;> exact .other _ (by simp) ⟨rfl, rfl, rfl, rfl, rfl, rfl, rfl⟩ rfl rfl (by simp) (by rintro ⟨_, h⟩; cases h)
  | frameStart =>
    unfold frameStartStep
    split
    · rename_i he
      exact .other _ (by simp) ⟨rfl, rfl, rfl, rfl, rfl, rfl, rfl⟩ rfl rfl (fun _ h => h.2 he) (by rintro ⟨_, h⟩; cases h)
    · rename_i e rest he
      split
      · rename_i hf
        split
        · exact .stop _ (by simp)
        · refine .start he ?_
          simp only [frameEnabled, Bool.and_eq_true] at hf
          simpa using hf.2
      · rename_i hf
        exact .other _ (by simp) ⟨rfl, rfl, rfl, rfl, rfl, rfl, rfl⟩ rfl rfl (fun _ h => hf h.1) (by rintro ⟨_, h⟩; cases h)
  | frameDone miso =>
    unfold frameDoneStep
    split
    · rename_i hb
      unfold receive
      dsimp only
      split
      · rename_i hl
        exact .done miso ⟨rfl, rfl, rfl, rfl, rfl, rfl, rfl⟩ hb rfl (.inl ⟨hl, by simp⟩)
      · rename_i hl
        exact .done miso ⟨rfl, rfl, rfl, rfl, rfl, rfl, rfl⟩ hb rfl (.inr ⟨Nat.not_lt.1 hl, rfl⟩)
    · rename_i hb
      exact .other _ (by simp) ⟨rfl, rfl, rfl, rfl, rfl, rfl, rfl⟩ rfl rfl (by simp) (fun _ h => hb h)
  | seq =>
    obtain ⟨-, hs | hs⟩ := hp
    · rw [show seqStep s = fillStep s by simp [seqStep, hs]]
      exact .fill hs
    · rw [show seqStep s = drainStep s by simp [seqStep, hs]]
      exact .drain hs

end Sys2Proof.Machine
end

