-- ==== Sys2Proof/Laws/Resolver.lean ====
section
/-! SUPPORT. What the two scans of RESOLVE answer, said once each. -/
namespace Sys2Proof.Machine

/-- The inner scan answers the first scr of its range that satisfies the bound. -/
theorem scanScr_some {p f prescaler : Nat} : ∀ {fuel scr b : Nat}, scanScr p f prescaler fuel scr = some b →
    scr ≤ b ∧ b < scr + fuel ∧ p / divisor prescaler b ≤ f ∧ ∀ c, scr ≤ c → c < b → f < p / divisor prescaler c
  | 0, _, _, h => by cases h
  | fuel + 1, scr, b, h => by
    unfold scanScr at h
    split at h
    · rename_i hle
      cases h
      exact ⟨le_rfl, by omega, hle, fun c h1 h2 => by omega⟩
    · rename_i hgt
      obtain ⟨h1, h2, h3, h4⟩ := scanScr_some h
      refine ⟨by omega, by omega, h3, fun c hc hb => ?_⟩
      by_cases hcs : c = scr
      · subst hcs; omega
      · exact h4 c (by omega) hb

/-- The inner scan answers nothing exactly when no scr of its range satisfies the bound. -/
theorem scanScr_none {p f prescaler : Nat} : ∀ {fuel scr : Nat}, scanScr p f prescaler fuel scr = none →
    ∀ c, scr ≤ c → c < scr + fuel → f < p / divisor prescaler c
  | 0, _, _, c, h1, h2 => by omega
  | fuel + 1, scr, h, c, h1, h2 => by
    unfold scanScr at h
    split at h
    · cases h
    · rename_i hgt
      by_cases hcs : c = scr
      · subst hcs; omega
      · exact scanScr_none h c (by omega) (by omega)

/-- The outer scan answers the first prescaler of its range with an scr, and that scr; or, when none has one, the
fallback. -/
theorem scanPrescaler_cases {p f : Nat} : ∀ (fuel start : Nat),
    (∃ i b, i < fuel ∧ scanPrescaler p f fuel start = (start + 2 * i, b) ∧
        scanScr p f (start + 2 * i) 256 0 = some b ∧ ∀ j, j < i → scanScr p f (start + 2 * j) 256 0 = none) ∨
      (scanPrescaler p f fuel start = (254, 255) ∧ ∀ j, j < fuel → scanScr p f (start + 2 * j) 256 0 = none)
  | 0, _ => .inr ⟨rfl, fun j h => by omega⟩
  | fuel + 1, start => by
    unfold scanPrescaler
    cases h : scanScr p f start 256 0 with
    | some b => exact .inl ⟨0, b, by omega, rfl, h, fun j hj => by omega⟩
    | none =>
      have shift : ∀ j, start + 2 + 2 * j = start + 2 * (j + 1) := fun j => by omega
      have below : ∀ n, (∀ j, j < n → scanScr p f (start + 2 + 2 * j) 256 0 = none) →
          ∀ j, j < n + 1 → scanScr p f (start + 2 * j) 256 0 = none := by
        intro n hn j hj
        rcases j with _ | j
        · exact h
        · rw [← shift]; exact hn j (by omega)
      obtain ⟨i, b, h1, h2, h3, h4⟩ | ⟨h1, h2⟩ := scanPrescaler_cases (p := p) (f := f) fuel (start + 2)
      · refine .inl ⟨i + 1, b, by omega, ?_, ?_, below i h4⟩
        · rw [← shift]; exact h2
        · rw [← shift]; exact h3
      · exact .inr ⟨h1, below fuel h2⟩

end Sys2Proof.Machine
end

