-- ==== Sys2Proof/Machine/Pseudo.lean ====
section
/-! DEFINITION. The pseudo-instructions of 30_encoding.md R75: what HOST issues next, given what its last read returned.
They are programs of HOST over the BUS transactions, and no step runs them as one. -/
namespace Sys2Proof.Machine

/-- `RD` of the register at an offset (R74, R63: SZ = 0b10, W = 0). -/
def busReadRequest (off : BitVec 6) : BusRequest := { selector := 2#2 ++ 0#1 ++ off, wdata := 0 }

/-- `WR` of the register at an offset (R74, R63: SZ = 0b10, W = 1). -/
def busWriteRequest (off : BitVec 6) (wdata : Word) : BusRequest := { selector := 2#2 ++ 1#1 ++ off, wdata := wdata }

/-- `POLL reg, mask, value` after a read of `v`: done, or the next read. -/
def pollNext (off : BitVec 6) (mask value v : Word) : Option BusRequest :=
  if v &&& mask = value then none else some (busReadRequest off)

/-- `RMW reg, mask, bits` after a read of `v`: the write. The two are two transactions. -/
def rmwWrite (off : BitVec 6) (mask bits v : Word) : BusRequest := busWriteRequest off ((v &&& ~~~mask) ||| bits)

/-- `FLUSHRX` after a read of SR that returned `v`: done, or the read of DR, after which SR is read again. -/
def flushRxNext (v : Word) : Option BusRequest := if v.getLsbD 2 then some (busReadRequest 0x08) else none

end Sys2Proof.Machine
end

