-- ==== Sys2Proof/Tests/Slice0.lean ====
section
/-! SUPPORT. The model's own tests: the vectors of spec/95_test_vectors.md, one step each, and a witness for the
hypotheses of every statement that has some. -/
namespace Sys2Proof.Tests
open Sys2Proof.Machine

/-! ## Helpers -/

/-- The state after reset with the clock on. -/
def on : State := { State.reset with clk := true }

/-- A loopback TRANSCEIVE of client 0 in its pump: two of three units pushed, one of them in each FIFO. -/
def pumping : State :=
  { on with
    regs := { on.regs with cr0 := 0x0707, cr1 := 3, cpsr := 1 }
    txFifo := [0x3C]
    rxFifo := [0xA5]
    seq :=
      { state := .drain, op := .transceive, client := 0, cfg := 0x000F424000000088
        cand := { cr0 := 0x707, cr1 := 1, cpsr := 2 }
        tx := some [⟨0x1000, 3⟩], rx := some [⟨0x2000, 3⟩]
        txLen := 3, rxLen := 3, n := 3, pushed := 2, popped := 0 }
    lock := .held 0
    cs := true
    slots := [.running, .empty, .empty]
    trace := [.cs true]
    mem := [(0x1000, 0xA5), (0x1001, 0x3C)]
    env := { schedule := [.seq], draws := 0 } }

/-- The same transfer in another sequencer state. -/
def inState (q : SeqState) : State := { pumping with seq := { pumping.seq with state := q } }

/-- The same transfer with nothing in flight, in another sequencer state. -/
def drainedIn (q : SeqState) : State := { inState q with txFifo := [], rxFifo := [], cs := q.selected }

/-- A state with the given next turn. -/
def withTurn (u : Turn) (s : State) : State := { s with env := { s.env with schedule := [u] } }

/-- The next state of an outcome, if it is one. -/
def next? : Result → Option State
  | .next s => some s
  | .fault _ => none
  | .refused _ => none

/-- What a read returned. -/
def value? (r : Result) : Option Word := (next? r).map State.rdata

/-- The instruction a request decodes to. -/
def decoded? (r : Request) : Option Instr :=
  match decode r with
  | .ok i => some i
  | .error _ => none

/-- The CFG word of vector V-CFG-1 with loopback: 8-bit master, 1 MHz. -/
def cfgLoopback : CfgWord := 0x000F424000000088

/-! ## WellFormed: each check refuses an ill-formed term (30_encoding.md R68, 43_transfer_context.md R123) -/

theorem test_wellFormed_accepts : (Instr.transceive 0 cfgLoopback (some [⟨0x1000, 3⟩]) none).wellFormed = true := by decide
theorem test_wellFormed_configure_reserved : (Instr.configure 0 0x000F424000000480).wellFormed = false := by decide
theorem test_wellFormed_transceive_reserved :
    (Instr.transceive 0 0x000F424080000080 none none).wellFormed = false := by decide
theorem test_wellFormed_release_reserved : (Instr.release 0 0x000F424000000480).wellFormed = false := by decide
theorem test_wellFormed_async_reserved :
    (Instr.transceiveAsync 0 0x000F424080000080 none none).wellFormed = false := by decide
theorem test_wellFormed_long_tx :
    (Instr.transceive 0 cfgLoopback (some [⟨0x1000, 0xFFFFFFFF⟩, ⟨0x2000, 1⟩]) none).wellFormed = false := by decide
theorem test_wellFormed_long_rx :
    (Instr.transceive 0 cfgLoopback none (some [⟨0x1000, 0xFFFFFFFF⟩, ⟨0x2000, 1⟩])).wellFormed = false := by decide

/-! ## Decoding: words written out from 30_encoding.md R65 (SZ, W, OFF) and R67 (OP) -/

theorem test_decode_rdCr0 : decoded? (.bus ⟨0b10_0_000000, 0⟩) = some .rdCr0 := by decide
theorem test_decode_wrCr0 : decoded? (.bus ⟨0b10_1_000000, 0xFFFF0707⟩) = some (.wrCr0 0xFFFF0707) := by decide
theorem test_decode_rdCr1 : decoded? (.bus ⟨0b10_0_000100, 0⟩) = some .rdCr1 := by decide
theorem test_decode_wrCr1 : decoded? (.bus ⟨0b10_1_000100, 2⟩) = some (.wrCr1 2) := by decide
theorem test_decode_rdDr : decoded? (.bus ⟨0b10_0_001000, 0⟩) = some .rdDr := by decide
theorem test_decode_wrDr : decoded? (.bus ⟨0b10_1_001000, 0xA5⟩) = some (.wrDr 0xA5) := by decide
theorem test_decode_rdSr : decoded? (.bus ⟨0b10_0_001100, 0⟩) = some .rdSr := by decide
theorem test_decode_wrSr : decoded? (.bus ⟨0b10_1_001100, 1⟩) = some (.wrSr 1) := by decide
theorem test_decode_rdCpsr : decoded? (.bus ⟨0b10_0_010000, 0⟩) = some .rdCpsr := by decide
theorem test_decode_wrCpsr : decoded? (.bus ⟨0b10_1_010000, 3⟩) = some (.wrCpsr 3) := by decide
theorem test_decode_rdImsc : decoded? (.bus ⟨0b10_0_010100, 0⟩) = some .rdImsc := by decide
theorem test_decode_wrImsc : decoded? (.bus ⟨0b10_1_010100, 8⟩) = some (.wrImsc 8) := by decide
theorem test_decode_rdRis : decoded? (.bus ⟨0b10_0_011000, 0⟩) = some .rdRis := by decide
theorem test_decode_wrRis : decoded? (.bus ⟨0b10_1_011000, 1⟩) = some (.wrRis 1) := by decide
theorem test_decode_rdMis : decoded? (.bus ⟨0b10_0_011100, 0⟩) = some .rdMis := by decide
theorem test_decode_wrMis : decoded? (.bus ⟨0b10_1_011100, 1⟩) = some (.wrMis 1) := by decide
theorem test_decode_rdIcr : decoded? (.bus ⟨0b10_0_100000, 0⟩) = some .rdIcr := by decide
theorem test_decode_wrIcr : decoded? (.bus ⟨0b10_1_100000, 3⟩) = some (.wrIcr 3) := by decide
theorem test_decode_rdDmacr : decoded? (.bus ⟨0b10_0_100100, 7⟩) = some .rdDmacr := by decide
theorem test_decode_wrDmacr : decoded? (.bus ⟨0b10_1_100100, 1⟩) = some (.wrDmacr 1) := by decide
theorem test_decode_init : decoded? (.cmd 1 ⟨0b0000, 5, none, none⟩) = some (.init 1) := by decide
theorem test_decode_configure : decoded? (.cmd 2 ⟨0b0001, cfgLoopback, none, none⟩) = some (.configure 2 cfgLoopback) := by
  decide
theorem test_decode_transceive :
    decoded? (.cmd 0 ⟨0b0010, cfgLoopback, some [⟨0x1000, 3⟩], none⟩) =
      some (.transceive 0 cfgLoopback (some [⟨0x1000, 3⟩]) none) := by decide
theorem test_decode_release : decoded? (.cmd 1 ⟨0b0011, cfgLoopback, none, none⟩) = some (.release 1 cfgLoopback) := by decide
theorem test_decode_async :
    decoded? (.cmd 0 ⟨0b0100, cfgLoopback, none, some []⟩) = some (.transceiveAsync 0 cfgLoopback none (some [])) := by decide
theorem test_decode_reserved_command : decoded? (.cmd 0 ⟨0b0101, 0, none, none⟩) = none := by decide
theorem test_decode_unmapped : decoded? (.bus ⟨0b10_0_101000, 0⟩) = none := by decide

/-! The opcode table's numbering: the first word, then the operand. -/

theorem test_table_rdSr : decodeTableWord 9 0x10C = some .rdSr := by decide
theorem test_table_wrDr : decodeTableWord 48 0xA50148 = some (.wrDr 0xA5) := by decide
theorem test_table_configure : decodeTableWord 8 0x01 = some (.configure 0 0) := by decide
theorem test_fetch_runs_init : (next? (step (State.reset.withFetchWord 8 0))).map State.clk = some true := by decide

/-! ## Reset and the parameters (R10, R172) -/

theorem test_reset_keeps_memory :
    (pumping.resetInstance.mem, pumping.resetInstance.slots, pumping.resetInstance.regs.cr0, pumping.resetInstance.clk) =
      ([(0x1000, 0xA5), (0x1001, 0x3C)], [.empty, .empty, .empty], 0, false) := by decide
theorem test_parameters_need_a_client :
    State.reset.parametersLegal ∧ ¬ (State.initial paramsAtReset 0 []).parametersLegal :=
  ⟨⟨⟨by decide, fun limit h => (by cases h; decide)⟩, by decide⟩, fun h => absurd h.2 (by decide)⟩

/-! ## BUS transactions (vectors V-BUS of 95_test_vectors.md) -/

theorem test_rdSr_before_init : (next? (exec .rdSr State.reset)).map State.fault = some (some (.notClockedBus 0x10C)) := by
  decide
theorem test_rdSr : value? (exec .rdSr on) = some 0x3 := by decide
theorem test_rdRis : value? (exec .rdRis on) = some 0x8 := by decide
theorem test_rdMis : value? (exec .rdMis { on with regs := { on.regs with imsc := 8 } }) = some 0x8 := by decide
theorem test_rdCr0 : value? (exec .rdCr0 { on with regs := { on.regs with cr0 := 0xAC47 } }) = some 0xAC47 := by decide
theorem test_rdCr1 : value? (exec .rdCr1 { on with regs := { on.regs with cr1 := 0xB } }) = some 0xB := by decide
theorem test_rdCpsr : value? (exec .rdCpsr { on with regs := { on.regs with cpsr := 0x7F } }) = some 0xFE := by decide
theorem test_rdImsc : value? (exec .rdImsc { on with regs := { on.regs with imsc := 6 } }) = some 6 := by decide
theorem test_rdDmacr : value? (exec .rdDmacr on) = some 0 := by decide
theorem test_rdDr_pops :
    (next? (exec .rdDr { on with rxFifo := [0x11, 0x22] })).map (fun t => (t.rdata, t.rxFifo)) = some (0x11, [0x22]) := by
  decide
theorem test_rdDr_empty_counts :
    (next? (exec .rdDr on)).map (fun t => (t.rxFifo, t.env.draws)) = some ([], 1) := by decide
theorem test_rdDr_during_transfer :
    (next? (exec .rdDr pumping)).map State.fault = some (some (.hostDuringTransfer 0x108)) := by decide
theorem test_rdIcr_counts : (next? (exec .rdIcr on)).map (fun t => (t.regs, t.env.draws)) = some (on.regs, 1) := by decide
theorem test_wrCr0 :
    (next? (exec (.wrCr0 0xFFFF0707) on)).map (fun t => (t.regs.cr0, t.trace)) =
      some (0x0707, [.regw .host 0x00 0xFFFF0707]) := by decide
theorem test_wrCr0_during_transfer :
    (next? (exec (.wrCr0 0) pumping)).map State.fault = some (some (.hostDuringTransfer 0x140)) := by decide
theorem test_wrCr1 : (next? (exec (.wrCr1 0xFFFFFFF3) on)).map (fun t => t.regs.cr1) = some 0x3 := by decide
theorem test_wrCr1_mid_frame :
    (next? (exec (.wrCr1 0) { on with regs := { on.regs with cr1 := 2 }, ser := { on.ser with busy := true } })).map
      State.fault = some (some (.disableMidFrame 0)) := by decide
theorem test_wrDr : (next? (exec (.wrDr 0xA5) on)).map (fun t => (t.txFifo, t.readSr)) = some ([0xA5], 0x12) := by decide
theorem test_wrDr_full :
    (next? (exec (.wrDr 9) { on with txFifo := [1, 2, 3, 4, 5, 6, 7, 8] })).map (fun t => (t.txFifo, t.readSr)) =
      some ([1, 2, 3, 4, 5, 6, 7, 8], 0x10) := by decide
theorem test_wrSr : (next? (exec (.wrSr 0xFFFFFFFF) on)).map State.trace = some [.regw .host 0x0C 0xFFFFFFFF] := by decide
theorem test_wrRis : (next? (exec (.wrRis 0xF) on)).map State.readRis = some 0x8 := by decide
theorem test_wrMis : (next? (exec (.wrMis 0xF) on)).map State.readMis = some 0 := by decide
theorem test_wrCpsr_odd : (next? (exec (.wrCpsr 3) on)).map State.readCpsr = some 2 := by decide
theorem test_wrCpsr_wide : (next? (exec (.wrCpsr 0x1FE) on)).map State.readCpsr = some 0xFE := by decide
theorem test_wrImsc : (next? (exec (.wrImsc 8) on)).map (fun t => (t.readMis, t.intr)) = some (8, true) := by decide
theorem test_wrIcr :
    (next? (exec (.wrIcr 3) { on with regs := { on.regs with rorris := true, rtris := true } })).map
      (fun t => (t.regs.rorris, t.regs.rtris)) = some (false, false) := by decide
theorem test_wrIcr_one_bit :
    (next? (exec (.wrIcr 2) { on with regs := { on.regs with rorris := true, rtris := true } })).map
      (fun t => (t.regs.rorris, t.regs.rtris)) = some (true, false) := by decide
theorem test_wrDmacr : (next? (exec (.wrDmacr 0) on)).map (fun t => (t.regs.dmacr, t.refused)) = some (0, none) := by decide
theorem test_wrDmacr_refused :
    (next? (exec (.wrDmacr 1) on)).map (fun t => (t.refused, t.trace)) = some (some .dmaEnable, []) := by decide
theorem test_bus_byte_access :
    (next? (runRequest (.bus ⟨0x00C, 0⟩) on)).map State.fault = some (some (.busWidth 0x00C)) := by decide
theorem test_bus_reserved_size :
    (next? (runRequest (.bus ⟨0x18C, 0⟩) on)).map State.fault = some (some (.busWidth 0x18C)) := by decide
theorem test_bus_unaligned :
    (next? (runRequest (.bus ⟨0x102, 0⟩) on)).map State.fault = some (some (.busUnmapped 0x102)) := by decide
theorem test_bus_clock_first :
    (next? (runRequest (.bus ⟨0x028, 0⟩) State.reset)).map State.fault = some (some (.notClockedBus 0x028)) := by decide

/-! ## Commands (vectors V-CMD) -/

theorem test_init :
    (next? (exec (.init 0) State.reset)).map (fun t => (t.clk, t.slot 0, t.trace)) =
      some (true, .done .ok, [.result 0 .ok]) := by decide
theorem test_init_during_transfer :
    (next? (exec (.init 1) pumping)).map State.fault = some (some (.initDuringTransfer 1)) := by decide
theorem test_configure_before_init :
    (next? (exec (.configure 0 cfgLoopback) State.reset)).map State.fault = some (some (.notClockedCmd 1)) := by decide
theorem test_configure :
    (next? (exec (.configure 1 cfgLoopback) on)).map (fun t => (t.seq.state, t.seq.op, t.seq.client, t.slot 1, t.lock)) =
      some (.check, .configure, 1, .running, .free) := by decide
theorem test_transceive :
    (next? (exec (.transceive 0 cfgLoopback none (some [])) on)).map (fun t => (t.slot 0, t.lock)) =
      some (.waitLock cfgLoopback none (some []), .free) := by decide
theorem test_transceive_long :
    (next? (exec (.transceive 0 cfgLoopback (some [⟨0x1000, 0xFFFFFFFF⟩, ⟨0x2000, 1⟩]) none) on)).map State.refused =
      some (some .bufferLength) := by decide
theorem test_release_reserved :
    (next? (exec (.release 0 0x000F424000000480) on)).map State.refused = some (some .cfgReserved) := by decide
theorem test_release : (next? (exec (.release 1 cfgLoopback) pumping)).map (fun t => t.slot 1) = some .relWait := by decide
theorem test_async_during_transfer :
    (next? (exec (.transceiveAsync 1 cfgLoopback none none) pumping)).map (fun t => (t.slot 1, t.lock)) =
      some (.done .notSupported, .held 0) := by decide
theorem test_async_pending :
    (next? (exec (.transceiveAsync 0 cfgLoopback none none) pumping)).map State.fault =
      some (some (.commandWhilePending 0)) := by decide
theorem test_reserved_command_clock_first :
    (next? (runRequest (.cmd 0 ⟨0xF, 0, none, none⟩) State.reset)).map State.fault = some (some (.notClockedCmd 0xF)) := by
  decide
theorem test_reserved_command :
    (next? (runRequest (.cmd 0 ⟨0x5, 0, none, none⟩) on)).map State.fault = some (some (.reservedCommand 0x5)) := by decide

/-! ## The resolver and the candidate image (E1, V-RES, V-CFG) -/

theorem test_resolve_example : resolve 16000000 1000000 = (2, 7) := by decide
theorem test_resolve_above_half : resolve 16000000 20000000 = (2, 0) := by decide
theorem test_resolve_second_prescaler : resolve 16000000 31249 = (4, 128) := by decide +kernel
theorem test_resolve_not_minimal : resolve 16000000 15500 = (6, 172) := by decide +kernel
theorem test_resolve_fallback : resolve 16000000 245 = (254, 255) := by decide +kernel
theorem test_resolve_zero_clock : resolve 0 0 = (2, 0) := by decide
theorem test_candidate_mode3 :
    candidate 16000000 0x0007A1200000008E = { cr0 := 0xFC7, cr1 := 1, cpsr := 2 } := by decide
theorem test_check_rejects_slave : cfgRejected 0x000F424000000089 = true := by decide
theorem test_check_rejects_word_size : cfgRejected 0x000F424000000108 = true := by decide

/-! ## The steps of the other agents (V-LOCK, V-BUF, V-STEP, E6, P1) -/

theorem test_acquire :
    (next? (runTurn (.acquire 0) { on with slots := [.waitLock cfgLoopback none (some [⟨0x2000, 4⟩]), .empty, .empty] })).map
      (fun t => (t.lock, t.slot 0, t.seq.state, t.seq.n)) = some (.held 0, .running, .waitBusy, 4) := by decide
theorem test_acquire_concurrent :
    (next? (runTurn (.acquire 2)
      { pumping with lock := .free, slots := [.running, .empty, .waitLock cfgLoopback none none] })).map State.fault =
      some (some (.concurrentTransfer 2)) := by decide
theorem test_release_polls :
    (next? (runTurn (.relWait 1) { on with slots := [.empty, .relWait, .empty], txFifo := [0x11] })).map
      (fun t => t.slot 1) = some .relWait := by decide
theorem test_release_frees :
    (next? (runTurn (.relWait 1) { on with slots := [.empty, .relWait, .empty], lock := .held 0 })).map
      (fun t => (t.slot 1, t.lock)) = some (.done .ok, .free) := by decide
theorem test_buffer_skips_empty : bufAddr (some [⟨0x1000, 2⟩, ⟨0x1800, 0⟩, ⟨0x1900, 1⟩]) 2 = some 0x1900 := by decide
theorem test_buffer_wraps : bufAddr (some [⟨0xFFFFFFFF, 2⟩]) 1 = some 0 := by decide
theorem test_fill :
    (next? (runTurn .seq (inState .fill))).map (fun t => (t.txFifo, t.seq.pushed, t.seq.state)) =
      some ([0x3C, 0x00], 3, .drain) := by decide
theorem test_fill_at_limit :
    (next? (runTurn .seq { inState .fill with par := { on.par with inflightLimit := some 2 } })).map
      (fun t => (t.txFifo, t.seq.pushed, t.seq.state)) = some ([0x3C], 2, .drain) := by decide
theorem test_drain_stores :
    (next? (runTurn .seq pumping)).map (fun t => (t.memRead 0x2000, t.rxFifo, t.seq.popped, t.seq.state)) =
      some (0xA5, [], 1, .drain) := by decide
theorem test_drain_finished :
    (next? (runTurn .seq { drainedIn .drain with seq := { pumping.seq with pushed := 3, popped := 3 } })).map
      (fun t => t.seq.state) = some .deselect := by decide
theorem test_frame_start :
    (next? (runTurn .frameStart { on with regs := pumping.regs, txFifo := [0xA5] })).map
      (fun t => (t.ser, t.txFifo, t.readSr)) =
      some ({ busy := true, shift := 0xA5, latched := { cr0 := 0x707, cr1 := 3, cpsr := 2 } }, [], 0x13) := by decide
theorem test_frame_start_16_bits :
    (next? (runTurn .frameStart { on with regs := { pumping.regs with cr0 := 0x070F }, txFifo := [0x11] })).map
      State.refused = some (some .unmodelledFrame) := by decide
theorem test_frame_done_loopback :
    (next? (runTurn (.frameDone 0xEE)
      { on with ser := { busy := true, shift := 0xA5, latched := { cr0 := 0x707, cr1 := 3, cpsr := 2 } } })).map
      (fun t => (t.rxFifo, t.trace, t.readSr)) = some ([0xA5], [.frame 0xA5 0xA5 0x707 3 2], 0x07) := by decide
theorem test_frame_done_overrun :
    (next? (runTurn (.frameDone 0xEE)
      { on with
        rxFifo := [1, 2, 3, 4, 5, 6, 7, 8]
        ser := { busy := true, shift := 0xA5, latched := { cr0 := 0x707, cr1 := 2, cpsr := 2 } } })).map
      (fun t => (t.regs.rorris, t.rxFifo.length, t.trace)) =
      some (true, 8, [.frame 0xA5 0xEE 0x707 2 2, .overrun 0xEE]) := by decide
/-- A write of CR0 during a frame leaves the frame's sampling edge, and changes that of the next frame (20_memory.md
R61). -/
theorem test_write_keeps_frame_edge :
    (next? (exec (.wrCr0 0x0707)
      { on with
        regs := { on.regs with cr0 := 0x0787 }
        ser := { busy := true, shift := 0xA5, latched := { cr0 := 0x787, cr1 := 2, cpsr := 2 } } })).map
      (fun t => (t.frameSampleEdge, t.frameChangeEdge, t.liveImage.sampleEdge)) =
      some (.trailing, .leading, .leading) := by decide
theorem test_enable :
    (next? (runTurn .seq { inState .enable with regs := { pumping.regs with cr1 := 1 } })).map
      (fun t => (t.regs.cr1, t.trace)) = some (3, [.cs true, .regw .seq 0x04 3]) := by decide
theorem test_failed_releases :
    (next? (runTurn .seq (inState .failed))).map (fun t => (t.lock, t.slot 0, t.seq.state, t.seq.op)) =
      some (.free, .done .unsupportedConfig, .idle, .none) := by decide
theorem test_memory_owner_kept_out :
    (next? (runTurn (.memWrite 0x2001 7) pumping)).map (fun t => t.memRead 0x2001) = some 0 := by decide

/-! ## Codes and pseudo-instructions (30_encoding.md R70, R75; 60_exceptions.md R157) -/

theorem test_fault_number : (Fault.initDuringTransfer 0).number = 10 ∧ (Fault.notClockedCmd 3).number = 1 := by decide
theorem test_rmw : rmwWrite 0x04 0x2 0x2 0x1 = { selector := 0x144, wdata := 0x3 } := by decide
theorem test_flushrx : flushRxNext 0x07 = some { selector := 0x108, wdata := 0 } ∧ flushRxNext 0x03 = none := by decide

/-! ## Witnesses: the hypotheses of the statements can be met, clause by clause -/

theorem test_witness_busSelectorOutcome :
    on.clk = true ∧ selSize 0x00C ≠ 2 ∧ selSize 0x18C ≠ 2 ∧ (selSize 0x102 = 2 ∧ (selOff 0x102).toNat % 4 ≠ 0) ∧
      (selSize 0x128 = 2 ∧ 0x28 ≤ (selOff 0x128).toNat) ∧
        (selSize 0x164 = 2 ∧ (selOff 0x164).toNat % 4 = 0 ∧ (selOff 0x164).toNat < 0x28) := by decide

theorem test_witness_commandCheckOrder :
    0 < State.reset.nClients ∧ (State.reset.clk = false ∧ (15 : BitVec 4) ≠ 0) ∧
      (on.clk = true ∧ 5 ≤ (5 : BitVec 4).toNat) ∧
        (pumping.clk = true ∧ (4 : BitVec 4).toNat < 5 ∧ 0 < pumping.nClients ∧ (pumping.slot 0).pending = true) ∧
          (on.clk = true ∧ 1 ≤ (1 : BitVec 4).toNat ∧ 2 < on.nClients ∧ (on.slot 2).pending = false ∧
            cfgReserved 0x000F424000000480 ≠ 0) := by decide

theorem test_witness_stepRunsDecodedInstruction :
    (withTurn (.host ⟨0x10C, 0⟩) on).running ∧ State.reset.running ∧
      (withTurn (.host ⟨0x10C, 0⟩) on).env.schedule = requestTurn (.bus ⟨0x10C, 0⟩) :: [] ∧
        decoded? (.bus ⟨0x10C, 0⟩) = some .rdSr ∧ decodeTableWord 9 0x10C = some .rdSr :=
  ⟨⟨rfl, rfl⟩, ⟨rfl, rfl⟩, rfl, by decide, by decide⟩

theorem test_witness_stopsArePreciseAndFinal :
    (∃ t, step (withTurn (.host ⟨0x10C, 0⟩) State.reset) = .next t ∧ t.fault = some (.notClockedBus 0x10C)) ∧
      (∃ t, step (withTurn (.host ⟨0x164, 1⟩) on) = .next t ∧ t.refused = some .dmaEnable) ∧
        { on with fault := some (.busWidth 0x00C) }.fault = some (.busWidth 0x00C) ∧
          { on with refused := some .cfgReserved }.fault = none ∧
            { on with refused := some .cfgReserved }.refused = some .cfgReserved :=
  ⟨⟨_, rfl, rfl⟩, ⟨_, rfl, rfl⟩, rfl, rfl, rfl⟩

/-- For every statement about one BUS transaction: with the clock on and no command, with the clock off, and with a
command running. -/
theorem test_witness_busTransactions :
    (on.clk = true ∧ on.seq.op = .none) ∧ State.reset.clk = false ∧
      (pumping.clk = true ∧ pumping.seq.op ≠ .none ∧ selWrite 0x140 = true ∧ (0x108 : BitVec 9) = 0x108) := by decide

theorem test_witness_hostLeavesRunningCommandAlone :
    State.reset.clk = false ∧ (pumping.clk = true ∧ pumping.seq.op ≠ .none) ∧ selSize 0x00C ≠ 2 ∧
      (selSize 0x142 = 2 ∧ (selOff 0x142).toNat % 4 ≠ 0) ∧ (selSize 0x168 = 2 ∧ ¬ (selOff 0x168).toNat < 0x28) ∧
        (selSize 0x164 = 2 ∧ (selOff 0x164).toNat % 4 = 0 ∧ (selOff 0x164).toNat < 0x28 ∧ selWrite 0x164 = true) ∧
          (selSize 0x124 = 2 ∧ (selOff 0x124).toNat % 4 = 0 ∧ (selOff 0x124).toNat < 0x28 ∧
            ¬ (selWrite 0x124 = true ∨ (0x124 : BitVec 9) = 0x108)) := by decide

theorem test_witness_readsOfDataAndInterruptClear :
    (pumping.rxFifo = 0xA5 :: [] ∧ { pumping with seq := on.seq }.seq.op = .none) ∧ on.rxFifo = [] := by decide

theorem test_witness_writeOfControl1 :
    let s : State := { on with regs := { on.regs with cr1 := 2 }, ser := { on.ser with busy := true } }
    s.clk = true ∧ s.seq.op = .none ∧
      (s.ser.busy = true ∧ s.regs.cr1.getLsbD 1 = true ∧ (0xFFFFFFFD : Word).getLsbD 1 = false) ∧
        ¬ (s.ser.busy = true ∧ s.regs.cr1.getLsbD 1 = true ∧ (2 : Word).getLsbD 1 = false) := by decide

theorem test_witness_writeOfData :
    { on with txFifo := [1, 2, 3, 4, 5, 6, 7] }.txFifo.length < on.par.fifoDepth ∧
      on.par.fifoDepth ≤ { on with txFifo := [1, 2, 3, 4, 5, 6, 7, 8] }.txFifo.length := by decide

theorem test_witness_dmaControlStaysZero :
    (4 : Word).extractLsb' 0 3 ≠ 0 ∧ (0xFFFFFFF8 : Word).extractLsb' 0 3 = 0 ∧ pumping.regs.dmacr = 0 ∧
      ∃ t, step pumping = .next t :=
  ⟨by decide, by decide, rfl, ⟨_, rfl⟩⟩

theorem test_witness_initEnablesClock :
    2 < State.reset.nClients ∧ (State.reset.slot 2).pending = false ∧ State.reset.seq.op = .none ∧
      1 < pumping.nClients ∧ (pumping.slot 1).pending = false ∧ pumping.seq.op ≠ .none ∧
        (pumping.slot 0).pending = true := by decide

/-- For the statements about CONFIGURE, TRANSCEIVE, RELEASE and TRANSCEIVE_ASYNC. -/
theorem test_witness_commands :
    2 < on.nClients ∧ on.clk = true ∧ (on.slot 2).pending = false ∧ cfgReserved cfgLoopback = 0 ∧ on.seq.op = .none ∧
      pumping.seq.op ≠ .none ∧ (pumping.slot 1).pending = false ∧ State.reset.clk = false ∧ (1 : BitVec 4) ≠ 0 ∧
        (pumping.slot 0).pending = true ∧ cfgReserved 0x000F424080000080 ≠ 0 := by decide

theorem test_witness_transceiveWaitsForLock :
    (bufLen (some [⟨0, 0xFFFFFFFF⟩]) < 2 ^ 32 ∧ bufLen none < 2 ^ 32) ∧
      2 ^ 32 ≤ bufLen (some [⟨0, 0xFFFFFFFF⟩, ⟨0, 1⟩]) := by decide

theorem test_witness_releasePollsThenFreesLock :
    let s : State := { on with slots := [.empty, .relWait, .empty] }
    1 < s.nClients ∧ s.slot 0 ≠ .relWait ∧ s.slot 1 = .relWait ∧ { s with txFifo := [0x11] }.txFifo ≠ [] ∧ (s.ser.busy = false ∧ s.txFifo = []) := by decide

theorem test_witness_acquireSetsUpTransfer :
    let s : State := { on with slots := [.empty, .empty, .waitLock cfgLoopback none (some [⟨0, 0xFFFFFFFF⟩])] }
    s.lock = .free ∧ s.slot 2 = .waitLock cfgLoopback none (some [⟨0, 0xFFFFFFFF⟩]) ∧ s.seq.op = .none ∧
      bufLen none < 2 ^ 32 ∧ bufLen (some [⟨0, 0xFFFFFFFF⟩]) < 2 ^ 32 ∧ { s with seq := pumping.seq }.seq.op ≠ .none ∧
        pumping.lock ≠ .free := by decide

theorem test_witness_acquire_no_waiter : on.lock = .free ∧ ∀ cfg tx rx, on.slot 0 ≠ .waitLock cfg tx rx :=
  ⟨rfl, fun cfg tx rx h => by cases h⟩

theorem test_witness_waitBusyThenFlush :
    ((inState .waitBusy).seq.state = .waitBusy ∧ (inState .waitBusy).txFifo ≠ []) ∧
      ((drainedIn .waitBusy).seq.state = .waitBusy ∧ (drainedIn .waitBusy).ser.busy = false ∧
        (drainedIn .waitBusy).txFifo = []) ∧
        ((inState .flush).seq.state = .flush ∧ (inState .flush).rxFifo = 0xA5 :: []) ∧
          ((drainedIn .flush).seq.state = .flush ∧ (drainedIn .flush).rxFifo = []) := by decide

theorem test_witness_checkRejectsOrCompares :
    (inState .check).seq.state = .check ∧ cfgSlave 0x000F424000000089 = true ∧ cfgWs 0x000F424000000108 ≠ 8 ∧
      cfgSlave (inState .check).seq.cfg = false ∧ cfgWs (inState .check).seq.cfg = 8 ∧
        (inState .check).cache.valid = false ∧ (inState .check).seq.op = .transceive := by decide

theorem test_witness_check_cache_hit :
    let s : State := { inState .check with cache := { valid := true, image := { cr0 := 0x707, cr1 := 1, cpsr := 2 } } }
    s.cache.valid = true ∧ s.cache.image = candidate s.par.pClkHz s.seq.cfg := by decide

theorem test_witness_imageWrittenInOrder :
    (inState .writeCr0).seq.state = .writeCr0 ∧ (inState .writeCr1).seq.state = .writeCr1 ∧
      ({ inState .writeCr1 with ser := { on.ser with busy := true } }.ser.busy = true ∧
        (inState .writeCr1).regs.cr1.getLsbD 1 = true) ∧
        (inState .writeCr1).ser.busy = false ∧ (inState .writeCpsr).seq.state = .writeCpsr ∧
          (inState .writeCpsr).seq.op ≠ .none := by decide

theorem test_witness_image_write_in_transfer :
    let s : State := { drainedIn .writeCr1 with seq := { (drainedIn .writeCr1).seq with pushed := 0 } }
    s.pumpAccounted ∧ s.seq.op = .transceive ∧ s.seq.state = .writeCr1 :=
  ⟨fun _ => ⟨⟨rfl, rfl⟩, rfl, rfl, rfl⟩, rfl, rfl⟩

/-- For the statements about one state of the sequencer, by its state. -/
theorem test_witness_sequencerStates :
    (inState .failed).seq.state = .failed ∧ (inState .finish).seq.state = .finish ∧
      (inState .select).seq.state = .select ∧ (inState .enable).seq.state = .enable ∧
        (inState .deselect).seq.state = .deselect := by decide

theorem test_witness_run_bit_cleared :
    ∃ t, step (withTurn (.host ⟨0x144, 1⟩) { on with regs := { on.regs with cr1 := 3 } }) = .next t ∧
      t.regs.cr1.getLsbD 1 = false :=
  ⟨_, rfl, rfl⟩

theorem test_witness_fillPushesOneUnit :
    (inState .fill).seq.state = .fill ∧ (inState .fill).seq.pushed < (inState .fill).seq.n ∧
      (inState .fill).txFifo.length < (inState .fill).par.fifoDepth ∧
        (inState .fill).rxFifo.length ≠ (inState .fill).par.fifoDepth ∧
          ((inState .fill).seq.pushed - (inState .fill).seq.popped).toNat < 8 ∧
            ¬ { pumping.seq with pushed := 3 }.pushed < pumping.seq.n := by decide

theorem test_witness_drainStoresOneUnit :
    pumping.seq.state = .drain ∧ memWf pumping.mem = true ∧ pumping.rxFifo = 0xA5 :: [] ∧
      (pumping.seq.popped < pumping.seq.rxLen ∧ bufAddr pumping.seq.rx pumping.seq.popped.toNat = some 0x2000) ∧
        { pumping.seq with popped := 3 }.rxLen ≤ (3 : BitVec 32) ∧ { pumping.seq with rx := none }.rx = none ∧ (drainedIn .drain).rxFifo = [] ∧
          ({ pumping.seq with pushed := 3, popped := 3 }.pushed = 3 ∧ pumping.seq.n = 3) ∧
            ¬ (pumping.seq.pushed = pumping.seq.n ∧ pumping.seq.popped = pumping.seq.n) := by decide

theorem test_witness_transmitByteOrDummy :
    ((2 : BitVec 32) < pumping.seq.txLen ∧ bufAddr pumping.seq.tx 2 = some 0x1002) ∧ pumping.seq.txLen ≤ (3 : BitVec 32) ∧
      on.seq.tx = none := by decide

theorem test_witness_bufferByteAddress :
    (descsLen [⟨0x1000, 2⟩, ⟨0x1800, 0⟩] ≤ 2 ∧ 2 < descsLen [⟨0x1000, 2⟩, ⟨0x1800, 0⟩] + (1 : BitVec 32).toNat) ∧
      2 < bufLen (some [⟨0x1000, 2⟩, ⟨0x1800, 0⟩, ⟨0x1900, 1⟩]) ∧
        bufLen (some [⟨0x1000, 2⟩, ⟨0x1800, 0⟩, ⟨0x1900, 1⟩]) ≤ 3 := by decide

theorem test_witness_frameStartLatches :
    pumping.clk = true ∧ pumping.regs.cr1.getLsbD 1 = true ∧ pumping.ser.busy = false ∧ pumping.txFifo = 0x3C :: [] ∧
      (0x070F : BitVec 16).extractLsb' 0 4 ≠ 7 ∧ (pumping.regs.cr0.extractLsb' 0 4 = 7 ∧
        pumping.regs.cr0.extractLsb' 4 2 = 0 ∧ pumping.regs.cr1.getLsbD 2 = false ∧ pumping.regs.cpsr ≠ 0) ∧
          State.reset.clk = false := by decide

theorem test_witness_frameDoneReceives :
    { on with ser := { on.ser with busy := true }, rxFifo := [1, 2, 3, 4, 5, 6, 7] }.ser.busy = true ∧
      [1, 2, 3, 4, 5, 6, 7].length < on.par.fifoDepth ∧ on.par.fifoDepth ≤ [1, 2, 3, 4, 5, 6, 7, 8].length ∧
        on.ser.busy = false := by decide

theorem test_witness_receiveTimeoutDraws : (pumping.rxFifo ≠ [] ∧ pumping.ser.busy = false) ∧ on.rxFifo = [] := by decide

theorem test_witness_resolverReturnsFirstPair :
    (∃ a b, legalPair a b ∧ meetsBound 16000000 1000000 a b) ∧
      (∀ a b, legalPair a b → ¬ meetsBound 65024 0 a b) ∧ legalPair 2 6 ∧ 2 = 2 ∧ 6 < 7 := by
  refine ⟨⟨2, 7, ⟨rfl, le_rfl, by omega, by omega⟩, by unfold meetsBound divisor; omega⟩, ?_, ⟨rfl, le_rfl, by omega, by omega⟩,
    rfl, by omega⟩
  rintro a b ⟨-, h1, h2, h3⟩ h
  have hle : a * (b + 1) ≤ 254 * 256 := Nat.mul_le_mul h2 (by omega)
  have hpos : 0 < 65024 / (a * (b + 1)) := Nat.div_pos (by omega) (Nat.mul_pos (by omega) (by omega))
  simp only [meetsBound, divisor] at h
  omega

theorem test_witness_resolverBounds :
    16000000 < 65024 * (1000000 + 1) ∧ 65024 * (245 + 1) ≤ 16000000 ∧ 65023 < 65024 * (0 + 1) ∧ 65024 * (0 + 1) ≤ 65024 ∧
      16000000 < 512 * (31250 + 1) := by decide

/-- For the statements that every step keeps an invariant: a transfer in its pump meets it, and its next step goes on. -/
theorem test_witness_stepsKeep :
    pumping.memCanonical ∧ pumping.fifosBounded ∧ State.reset.clk = false ∧ pumping.pumpAccounted ∧
      pumping.par.inflightWithinDepth ∧ ∃ t, step pumping = .next t := by
  refine ⟨rfl, ⟨by decide, by decide⟩, rfl, ?_, ⟨8, rfl, by decide⟩, ⟨_, rfl⟩⟩
  intro _
  refine ⟨by decide, by decide, fun limit h => ?_⟩
  cases h
  decide

theorem test_witness_unclocked : (withTurn .seq State.reset).untouchedUnlessClocked ∧
    ∃ t, step (withTurn .seq State.reset) = .next t :=
  ⟨fun _ => ⟨rfl, rfl, rfl, rfl, rfl, rfl, rfl, rfl, rfl, by decide⟩, ⟨_, rfl⟩⟩

theorem test_witness_sequencerInvariants : pumping.seqConsistent ∧ pumping.exclusive := by
  refine ⟨⟨by decide, by decide, by decide⟩, ⟨fun k => ?_, fun k h => ?_⟩⟩
  · rcases k with _ | _ | _ | k
    · decide
    · decide
    · decide
    · exact ⟨fun h => (by cases h), fun h => (by cases h.2)⟩
  · cases h
    exact ⟨rfl, rfl⟩

theorem test_witness_chipSelectInvariant : pumping.csBracketed := by
  refine ⟨by decide, by decide, by decide⟩

theorem test_witness_imageInProgress :
    let s : State := { inState .writeCpsr with regs := { pumping.regs with cr1 := 1 } }
    s.imageInProgress ∧ s.seq.state = .writeCpsr ∧ ∃ t, runTurn .seq s = .next t :=
  ⟨⟨by decide, by decide, by decide, by decide⟩, rfl, ⟨_, rfl⟩⟩

theorem test_witness_waitersFit : { on with slots := [.waitLock cfgLoopback none (some [⟨0, 0xFFFFFFFF⟩])] }.waitersFit := by
  intro k cfg tx rx h
  rcases k with _ | k
  · cases h
    decide
  · cases h

theorem test_witness_noOverrunDuringPump :
    pumping.par.inflightWithinDepth ∧ pumping.seq.op = .transceive ∧ pumping.seq.state = .drain ∧
      (inState .fill).seq.state = .fill :=
  ⟨⟨8, rfl, by decide⟩, rfl, rfl, rfl⟩

theorem test_witness_loopbackEchoesInOrder :
    pumping.buffersDisjoint ∧ pumping.loopbackInOrder ∧ pumping.seq.op = .transceive ∧ pumping.seq.state = .drain ∧
      pumping.regs.lbm = true ∧ pumping.rxFifo = 0xA5 :: [] := by
  refine ⟨fun a h => ?_, fun _ _ _ => ⟨fun h => (by cases h), fun j b h => ?_⟩, rfl, rfl, rfl, rfl⟩
  · simp only [bufCovers, pumping, List.any_cons, List.any_nil, Bool.or_false, decide_eq_true_eq, decide_eq_false_iff_not] at h ⊢
    bv_omega
  · rcases j with _ | _ | j
    · cases h; decide
    · cases h; decide
    · cases h

theorem test_witness_chipSelectWriters :
    ∃ t, step (withTurn .seq (drainedIn .select)) = .next t ∧ t.cs ≠ (withTurn .seq (drainedIn .select)).cs := ⟨_, rfl, by decide⟩

theorem test_witness_interruptLatchWriters :
    (∃ t, step (withTurn (.host ⟨0x160, 1⟩) { on with regs := { on.regs with rorris := true } }) = .next t ∧
        t.regs.rorris ≠ true) ∧
      ∃ t, step (withTurn .timeoutSet { on with rxFifo := [1] }) = .next t ∧ t.regs.rtris ≠ on.regs.rtris :=
  ⟨⟨_, rfl, by decide⟩, ⟨_, rfl, by decide⟩⟩

theorem test_witness_cacheClockTraceAndParameterWriters :
    (∃ t, step (withTurn .seq (inState .writeCpsr)) = .next t ∧ t.cache ≠ (inState .writeCpsr).cache) ∧
      ∃ t, step (withTurn (.client 0 ⟨0, 0, none, none⟩) State.reset) = .next t ∧ t.clk ≠ State.reset.clk :=
  ⟨⟨_, rfl, by decide⟩, ⟨_, rfl, by decide⟩⟩

theorem test_witness_memoryWriters :
    pumping.memCanonical ∧ (∃ t, step pumping = .next t ∧ t.memRead 0x2000 ≠ pumping.memRead 0x2000) ∧
      ∃ t, step (withTurn (.memWrite 0x3000 7) pumping) = .next t ∧ t.memRead 0x3000 ≠ pumping.memRead 0x3000 :=
  ⟨rfl, ⟨_, rfl, by decide⟩, ⟨_, rfl, by decide⟩⟩

/-- A transfer of one unit that is about to push it. -/
def oneUnit : State := { drainedIn .fill with seq := { (inState .fill).seq with pushed := 0, n := 1 } }

/-- The turns of a fair run: SEQ and the four steps of SER in rotation. -/
def fairTurn (k : Nat) : Turn :=
  if k % 5 = 0 then .seq
  else if k % 5 = 1 then .frameStart
  else if k % 5 = 2 then .frameDone 0
  else if k % 5 = 3 then .timeoutSet
  else .timeoutClear

/-- The state a turn leads to. -/
def after (u : Turn) (s : State) : State := (next? (runTurn u s)).getD s

/-- The states of the fair run from oneUnit. -/
def fairState : Nat → State
  | 0 => oneUnit
  | k + 1 => after (fairTurn k) (fairState k)

theorem fairTurn_cases (k : Nat) :
    fairTurn k = .seq ∨ fairTurn k = .frameStart ∨ fairTurn k = .frameDone 0 ∨ fairTurn k = .timeoutSet ∨
      fairTurn k = .timeoutClear := by
  unfold fairTurn
  (repeat' split) <;> simp

/-- After FINISH the fair run stays as it is. -/
theorem fairState_rests (k : Nat) : fairState (21 + k) = fairState 21 := by
  induction k with
  | zero => rfl
  | succ k ih =>
    show after (fairTurn (21 + k)) (fairState (21 + k)) = _
    rw [ih]
    obtain h | h | h | h | h := fairTurn_cases (21 + k) <;> rw [h] <;> decide +kernel

theorem fairState_running (k : Nat) : (fairState k).halted = none := by
  by_cases h : k < 21
  · exact (by decide +kernel : ∀ j : Fin 21, (fairState j).halted = none) ⟨k, h⟩
  · obtain ⟨j, rfl⟩ := Nat.exists_eq_add_of_le (Nat.not_lt.1 h)
    rw [fairState_rests]
    decide +kernel

theorem fairState_isRun : IsRun fairTurn fairState := by
  intro k
  show step _ = .next (after (fairTurn k) (fairState k))
  have hh : ((fairState k).given (fairTurn k)).halted = none := fairState_running k
  obtain h | h | h | h | h := fairTurn_cases k <;> rw [h] at hh ⊢ <;> unfold step <;> rw [hh] <;> rfl

/-- No client waits for the lock once the fair run rests. -/
theorem fairState_no_waiter (k : Nat) : ¬ (fairState (21 + k)).acquireEnabled := by
  rw [fairState_rests]
  rintro ⟨-, j, cfg, tx, rx, h⟩
  have hs : (fairState 21).slots = [.done .ok, .empty, .empty] := by decide +kernel
  rw [State.slot, hs] at h
  rcases j with _ | _ | _ | j <;> cases h

/-- A run that is weakly fair in every step of SEQ and SER. -/
theorem test_fair_run : IsFairRun fairTurn fairState := by
  have at5 : ∀ k, fairTurn (5 * k) = .seq ∧ fairTurn (5 * k + 1) = .frameStart ∧ fairTurn (5 * k + 2) = .frameDone 0 ∧
      fairTurn (5 * k + 3) = .timeoutSet ∧ fairTurn (5 * k + 4) = .timeoutClear := by
    intro k
    refine ⟨?_, ?_, ?_, ?_, ?_⟩ <;> unfold fairTurn <;> simp
  refine ⟨fairState_isRun, ⟨fun k _ => ⟨5 * k, by omega, (at5 k).1⟩, fun k h => ?_⟩,
    ⟨fun k _ => ⟨5 * k + 1, by omega, (at5 k).2.1⟩, fun k _ => ⟨5 * k + 2, by omega, 0, (at5 k).2.2.1⟩⟩,
    ⟨fun k _ => ⟨5 * k + 3, by omega, (at5 k).2.2.2.1⟩, fun k _ => ⟨5 * k + 4, by omega, (at5 k).2.2.2.2⟩⟩⟩
  exact absurd (h (21 + k) (by omega)) (fairState_no_waiter k)

theorem test_witness_pumpReachesDeselect :
    IsRun fairTurn fairState ∧ SeqStateFair fairTurn fairState ∧ FrameFair fairTurn fairState ∧
      (fairState 0).par.legal ∧ (fairState 0).par.inflightWithinDepth ∧ (fairState 0).canSend ∧
        (fairState 0).pumpAccounted ∧ (fairState 0).inPump := by
  refine ⟨test_fair_run.1, test_fair_run.2.1.1, test_fair_run.2.2.1, ⟨by decide, fun limit h => ?_⟩, ⟨8, rfl, by decide⟩,
    by unfold State.canSend; decide, fun _ => ⟨by decide, by decide, fun limit h => ?_⟩, by unfold State.inPump; decide⟩
  · cases h; decide
  · cases h; decide

/-- A client that waits for the lock. -/
def waiting : State := { on with slots := [.waitLock cfgLoopback none none, .empty, .empty] }

/-- A run in which it takes the lock and SEQ then never moves. -/
def acquireState : Nat → State
  | 0 => waiting
  | _ + 1 => acquireStep 0 waiting

theorem test_witness_waitedForLockIsTaken :
    IsRun (fun _ => .acquire 0) acquireState ∧ AcquireFair (fun _ => .acquire 0) acquireState ∧
      (acquireState 0).seqConsistent ∧ (acquireState 0).exclusive ∧ (acquireState 0).lock = .free ∧
        (acquireState 0).waits 0 := by
  refine ⟨fun k => ?_,
    fun k h => absurd (h (k + 1) (by omega)).1 (show ¬ (acquireStep 0 waiting).lock = .free by decide),
    ⟨by decide, by decide, by decide⟩, ⟨fun k => ?_, fun k h => (by cases h)⟩, rfl, ⟨cfgLoopback, none, none, rfl⟩⟩
  · rcases k with _ | k <;> rfl
  · rcases k with _ | _ | _ | k <;> exact ⟨fun h => (by cases h), fun h => absurd rfl h.1⟩

/-- A transfer whose three units are pushed and not sent, in FILL and DRAIN by turns. -/
def unsentState (k : Nat) : State :=
  let q : SeqState := if k % 2 = 0 then .fill else .drain
  { inState q with rxFifo := [], seq := { (inState q).seq with pushed := 3 } }

theorem test_witness_pumpLoopsWithoutFrames :
    IsRun (fun _ => .seq) unsentState ∧ (∀ m, 0 ≤ m → ¬ isFrameDone .seq) ∧ (unsentState 0).inPump ∧
      (unsentState 0).seq.popped.toNat + (unsentState 0).rxFifo.length < (unsentState 0).seq.n.toNat := by
  refine ⟨fun k => ?_, fun _ _ h => (by obtain ⟨_, h⟩ := h; cases h), by unfold State.inPump; decide, by decide⟩
  obtain h | h := Nat.mod_two_eq_zero_or_one k
  · have h1 : (k + 1) % 2 = 1 := by omega
    simp only [unsentState, h, h1]
    rfl
  · have h1 : (k + 1) % 2 = 0 := by omega
    simp only [unsentState, h, h1]
    rfl

/-- The fallback because no pair meets the bound, (254, 255) as the only pair that meets it, and another pair. -/
theorem test_witness_resolverFallbackCondition :
    (65024 * (245 + 1) ≤ 16000000 ∧ resolve 16000000 245 = (254, 255)) ∧
      (¬ 65024 * (246 + 1) ≤ 16000000 ∧ resolve 16000000 246 = (254, 255)) ∧
        resolve 16000000 300 ≠ (254, 255) := by decide +kernel

end Sys2Proof.Tests
end

section
/-! The state after reset of an instance meets each invariant whatever its parameters, N_CLIENTS and memory: SEQ runs no
command, nothing is in flight and every slot is EMPTY (spec/70_reset_and_hazards.md R172). Only the claims about the
memory list and the parameters depend on the arguments of State.initial. -/
namespace Sys2Proof.Machine

variable {par : Params} {n : Nat} {mem : List Host.Cell}

@[simp] theorem State.nClients_initial : (State.initial par n mem).nClients = n := List.length_replicate

theorem State.op_initial_ne_transceive : (State.initial par n mem).seq.op ≠ .transceive := SeqOp.noConfusion

theorem State.fifosBounded_initial : (State.initial par n mem).fifosBounded := ⟨Nat.zero_le _, Nat.zero_le _⟩

theorem State.untouchedUnlessClocked_initial : (State.initial par n mem).untouchedUnlessClocked :=
  fun _ => ⟨rfl, rfl, rfl, rfl, rfl, rfl, rfl, rfl, rfl, fun _ => List.eq_of_mem_replicate⟩

theorem State.seqConsistent_initial : (State.initial par n mem).seqConsistent :=
  ⟨⟨fun _ => rfl, fun _ => rfl⟩, SeqOp.noConfusion, fun h => absurd rfl h⟩

theorem State.exclusive_initial : (State.initial par n mem).exclusive := by
  constructor
  · intro k
    rw [State.slot_initial]
    exact ⟨Slot.noConfusion, fun ⟨hop, _⟩ => absurd rfl hop⟩
  · exact fun _ => Lock.noConfusion

theorem State.csBracketed_initial : (State.initial par n mem).csBracketed := ⟨fun _ => rfl, rfl, rfl⟩

theorem State.pumpAccounted_initial : (State.initial par n mem).pumpAccounted :=
  fun h => absurd h State.op_initial_ne_transceive

/-- SEQ is in IDLE, so no image is being written and each clause about the writing states is empty. -/
theorem State.imageInProgress_initial : (State.initial par n mem).imageInProgress := by
  refine ⟨fun _ => rfl, ?_, ?_, SeqState.noConfusion⟩
  · rintro (h | h | h) <;> exact SeqState.noConfusion h
  · rintro (h | h) <;> exact SeqState.noConfusion h

theorem State.waitersFit_initial : (State.initial par n mem).waitersFit := by
  intro k cfg tx rx h
  rw [State.slot_initial] at h
  exact Slot.noConfusion h

theorem State.loopbackInOrder_initial : (State.initial par n mem).loopbackInOrder :=
  fun h => absurd h State.op_initial_ne_transceive

/-- SEQ.tx is ABSENT, and an ABSENT buffer set covers no byte. -/
theorem State.buffersDisjoint_initial : (State.initial par n mem).buffersDisjoint := fun _ => Bool.noConfusion

theorem State.quiescent_initial : (State.initial par n mem).quiescent := by
  refine ⟨rfl, rfl, rfl, List.all_eq_true.mpr fun x hx => ?_, rfl, rfl⟩
  rw [List.eq_of_mem_replicate hx]
  rfl

theorem State.memCanonical_initial_iff : (State.initial par n mem).memCanonical ↔ memWf mem = true := Iff.rfl

theorem State.parametersLegal_initial_iff : (State.initial par n mem).parametersLegal ↔ par.legal ∧ 1 ≤ n := by
  simp only [State.parametersLegal, State.nClients_initial]
  rfl

theorem paramsAtReset_inflightWithinDepth : paramsAtReset.inflightWithinDepth := ⟨8, rfl, le_rfl⟩

theorem paramsAtReset_legal : paramsAtReset.legal := by
  refine ⟨by decide, fun limit h => ?_⟩
  obtain rfl : 8 = limit := Option.some.inj h
  decide

/-- Settles O42: State.reset is the initial state with the parameters of log entry 5, three clients and empty memory, and
each part is the lemma about initial states for it. -/
theorem resetMeetsInvariants : Obligations.ResetMeetsInvariants :=
  ⟨State.memCanonical_initial_iff.mpr rfl, State.fifosBounded_initial, State.untouchedUnlessClocked_initial,
    State.seqConsistent_initial, State.exclusive_initial, State.csBracketed_initial, State.pumpAccounted_initial,
    State.imageInProgress_initial, State.waitersFit_initial, State.loopbackInOrder_initial,
    State.buffersDisjoint_initial, rfl, paramsAtReset_inflightWithinDepth,
    State.parametersLegal_initial_iff.mpr ⟨paramsAtReset_legal, by decide⟩, State.quiescent_initial⟩

end Sys2Proof.Machine
end

section
/-! The parts of the state that few steps write: the two interrupt latches, CACHE, the clock enable, TRACE, the parameters
and the number of clients. What one turn can do to them is said once (WriterEffect), as one of the six writes that
spec/10_state.md and spec/44_pump_engine.md name, or none; the statements about their writers are read off from it. -/
namespace Sys2Proof.Machine

/-! ### The frame -/

/-- `t` has the interrupt latches, CACHE, clock enable, parameters and clients of `s`, and its TRACE begins with that of
`s`. -/
structure WriterFrame (s t : State) : Prop where
  rorris : t.regs.rorris = s.regs.rorris
  rtris : t.regs.rtris = s.regs.rtris
  cache : t.cache = s.cache
  clk : t.clk = s.clk
  trace : s.trace <+: t.trace
  par : t.par = s.par
  nClients : t.nClients = s.nClients

/-- The frame by fields, for the simp set of the setters. -/
@[simp] theorem writerFrame_iff {s t : State} :
    WriterFrame s t ↔ t.regs.rorris = s.regs.rorris ∧ t.regs.rtris = s.regs.rtris ∧ t.cache = s.cache ∧ t.clk = s.clk ∧
      s.trace <+: t.trace ∧ t.par = s.par ∧ t.slots.length = s.slots.length :=
  ⟨fun ⟨h1, h2, h3, h4, h5, h6, h7⟩ => ⟨h1, h2, h3, h4, h5, h6, h7⟩,
    fun ⟨h1, h2, h3, h4, h5, h6, h7⟩ => ⟨h1, h2, h3, h4, h5, h6, h7⟩⟩

theorem WriterFrame.refl (s : State) : WriterFrame s s := by simp

theorem WriterFrame.trans {s t u : State} (h : WriterFrame s t) (h' : WriterFrame t u) : WriterFrame s u :=
  ⟨h'.rorris.trans h.rorris, h'.rtris.trans h.rtris, h'.cache.trans h.cache, h'.clk.trans h.clk, h.trace.trans h'.trace,
    h'.par.trans h.par, h'.nClients.trans h.nClients⟩

theorem writerFrame_halt (s : State) (stop : Stop) : WriterFrame s (s.halt stop) := by
  cases stop <;> simp

/-! ### Requests -/

theorem busRead_writerFrame (b : BitVec 9) {rule : State → State} {s : State} (hrule : WriterFrame s (rule s)) :
    WriterFrame s (busRead b rule s) := by
  obtain ⟨stop, h⟩ | ⟨-, -, h⟩ := busRead_cases b rule s
  · rw [h]; exact writerFrame_halt s stop
  · rw [h]; exact hrule

theorem busWrite_writerFrame {b : BitVec 9} (hb : selWrite b = true) (w : Word) (own : Option Stop) {rule : State → State}
    (hrule : ∀ s, WriterFrame s (rule s)) (s : State) : WriterFrame s (busWrite b w own rule s) := by
  obtain ⟨stop, h⟩ | ⟨-, -, -, h⟩ := busWrite_cases b hb w own rule s
  · rw [h]; exact writerFrame_halt s stop
  · rw [h]; exact .trans (by simp) (hrule _)

theorem command_writerFrame {op : BitVec 4} {k : Nat} {cfg : Option CfgWord} {own : Option Stop} {issue : State → State}
    {s t : State} (h : command op k cfg own issue s = .next t) (hissue : WriterFrame s (issue s)) : WriterFrame s t := by
  obtain ⟨-, ⟨stop, rfl⟩ | ⟨-, -, -, rfl⟩⟩ := command_cases h
  · exact writerFrame_halt s stop
  · exact hissue

theorem popDr_writerFrame (s : State) : WriterFrame s (popDr s) := by
  unfold popDr
  split <;> simp

theorem pushDr_writerFrame (w : Word) (s : State) : WriterFrame s (pushDr w s) := by
  unfold pushDr
  split <;> simp

theorem execWrIcr_writerFrame {w : Word} {s t : State} (h : execWrIcr w s = .next t) :
    WriterFrame s t ∨ WriterFrame (clearIcr w s) t := by
  cases h
  obtain ⟨stop, h⟩ | ⟨-, -, -, h⟩ := busWrite_cases 0x160 rfl w none (clearIcr w) s
  · rw [h]; exact .inl (writerFrame_halt s stop)
  · rw [h]; exact .inr (by simp [clearIcr])

theorem execInit_writerFrame {k : Nat} {s t : State} (h : execInit k s = .next t) :
    WriterFrame s t ∨ WriterFrame (s.setClk true) t := by
  obtain ⟨-, ⟨stop, rfl⟩ | ⟨-, -, -, rfl⟩⟩ := command_cases h
  · exact .inl (writerFrame_halt s stop)
  · exact .inr (by simp [issueInit])

/-- Of the instructions only WR_ICR and INIT write a part of the frame (10_state.md R37, R41). -/
theorem exec_writerFrame {i : Instr} {s t : State} (h : exec i s = .next t) :
    WriterFrame s t ∨ (∃ w, i = .wrIcr w ∧ WriterFrame (clearIcr w s) t) ∨
      ∃ k, i = .init k ∧ WriterFrame (s.setClk true) t := by
  cases i with
  | wrIcr w => exact (execWrIcr_writerFrame h).imp_right fun h => .inl ⟨w, rfl, h⟩
  | init k => exact (execInit_writerFrame h).imp_right fun h => .inr ⟨k, rfl, h⟩
  | rdDr => cases h; exact .inl (busRead_writerFrame _ (popDr_writerFrame s))
  | rdIcr => cases h; exact .inl (busRead_writerFrame _ (by simp [drawIcr]))
  | rdCr0 | rdCr1 | rdSr | rdCpsr | rdImsc | rdRis | rdMis | rdDmacr =>
    cases h; exact .inl (busRead_writerFrame _ (by simp))
  | wrDr w => cases h; exact .inl (busWrite_writerFrame rfl w _ (pushDr_writerFrame w) s)
  | wrSr w | wrRis w | wrMis w => cases h; exact .inl (busWrite_writerFrame rfl w _ .refl s)
  | wrCr0 w | wrCr1 w | wrCpsr w | wrImsc w | wrDmacr w =>
    cases h; exact .inl (busWrite_writerFrame rfl w _ (by simp) s)
  | configure k cfg | transceive k cfg tx rx | release k cfg | transceiveAsync k cfg tx rx =>
    simp only [exec, execConfigure, execTransceive, execRelease, execTransceiveAsync] at h
    exact .inl (command_writerFrame h (by simp [issueConfigure]))

/-! ### The requests that decode to WR_ICR and to INIT -/

/-- A BUS selector is its three fields (30_encoding.md R63). -/
theorem selector_eq_fields (b : BitVec 9) : b = selSize b ++ BitVec.ofBool (selWrite b) ++ selOff b := by
  refine BitVec.eq_of_getLsbD_eq fun i hi => ?_
  simp only [selSize, selWrite, selOff, BitVec.getLsbD_append, BitVec.getLsbD_extractLsb', BitVec.getLsbD_ofBool]
  interval_cases i <;> simp

/-- A selector that decodes has SZ = 0b10 and the offset and direction of a row of R65. -/
theorem decodeBus_ok {r : BusRequest} {i : Instr} (h : decodeBus r = .ok i) :
    selSize r.selector = 2 ∧ decodeRegister (selOff r.selector) (selWrite r.selector) r.wdata = some i := by
  unfold decodeBus at h
  split at h
  · cases h
  · rename_i hsize
    split at h
    · rename_i hi
      cases h
      exact ⟨not_not.mp hsize, hi⟩
    · cases h

theorem decodeRegister_wrIcr {off : BitVec 6} {write : Bool} {wdata w : Word}
    (h : decodeRegister off write wdata = some (.wrIcr w)) : off = 0x20 ∧ write = true ∧ wdata = w := by
  unfold decodeRegister at h
  -- every other row of R65 names another instruction
  split at h <;> cases write <;> simp at h
  rename_i hoff
  exact ⟨BitVec.eq_of_toNat_eq hoff, rfl, h⟩

theorem decodeRegister_ne_init {off : BitVec 6} {write : Bool} {wdata : Word} {k : Nat} :
    decodeRegister off write wdata ≠ some (.init k) := by
  intro h
  unfold decodeRegister at h
  split at h <;> cases write <;> simp at h

/-- Only the write with selector 0x160 decodes to WR_ICR. -/
theorem decode_wrIcr {q : Request} {w : Word} (h : decode q = .ok (.wrIcr w)) :
    q = .bus { selector := 0x160, wdata := w } := by
  cases q with
  | bus r =>
    obtain ⟨hsize, hreg⟩ := decodeBus_ok h
    obtain ⟨hoff, hwrite, rfl⟩ := decodeRegister_wrIcr hreg
    have hsel : r.selector = 0x160 := by
      rw [selector_eq_fields r.selector, hsize, hwrite, hoff]
      rfl
    rw [← hsel]
  | cmd k c =>
    simp only [decode, decodeCmd] at h
    split at h <;> cases h

/-- Only a command with OP = 0 decodes to INIT. -/
theorem decode_init {q : Request} {k : Nat} (h : decode q = .ok (.init k)) : ∃ c, q = .cmd k c ∧ c.op = 0 := by
  cases q with
  | bus r => exact absurd (decodeBus_ok h).2 decodeRegister_ne_init
  | cmd k' c =>
    simp only [decode, decodeCmd] at h
    split at h <;> cases h
    rename_i hop
    exact ⟨c, rfl, BitVec.eq_of_toNat_eq hop⟩

/-! ### The sequencer -/

theorem waitBusyStep_writerFrame (s : State) : WriterFrame s (waitBusyStep s) := by
  unfold waitBusyStep
  split <;> simp

theorem flushStep_writerFrame (s : State) : WriterFrame s (flushStep s) := by
  unfold flushStep
  split <;> simp

theorem checkStep_writerFrame (s : State) : WriterFrame s (checkStep s) := by
  unfold checkStep
  split
  · simp
  · dsimp only
    split <;> simp

theorem writeCr1Step_writerFrame (s : State) : WriterFrame s (writeCr1Step s) := by
  unfold writeCr1Step
  split
  · exact writerFrame_halt s _
  · simp

theorem fillStep_writerFrame (s : State) : WriterFrame s (fillStep s) := by
  unfold fillStep pushUnit
  split <;> simp

theorem drainStep_writerFrame (s : State) : WriterFrame s (drainStep s) := by
  cases hrx : s.rxFifo with
  | nil => rw [drainStep_empty hrx]; simp
  | cons e rest =>
    obtain ⟨m, h, -⟩ := drainStep_pop hrx
    rw [h]
    simp

theorem endCommand_writerFrame (code : ResultCode) (s : State) : WriterFrame s (endCommand code s) := by
  unfold endCommand
  dsimp only
  split <;> simp

/-- Of SEQ's state steps only WRITE_CPSR writes a part of the frame (10_state.md R34). -/
theorem seqStep_writerFrame {s : State} (h : s.seq.state ≠ .writeCpsr) : WriterFrame s (seqStep s) := by
  unfold seqStep
  cases hs : s.seq.state with
  | idle => exact .refl s
  | waitBusy => exact waitBusyStep_writerFrame s
  | flush => exact flushStep_writerFrame s
  | check => exact checkStep_writerFrame s
  | failed => exact endCommand_writerFrame .unsupportedConfig s
  | writeCr0 => simp [writeCr0Step]
  | writeCr1 => exact writeCr1Step_writerFrame s
  | writeCpsr => exact absurd hs h
  | select => simp [selectStep]
  | enable => simp [enableStep]
  | fill => exact fillStep_writerFrame s
  | drain => exact drainStep_writerFrame s
  | deselect => simp [deselectStep]
  | finish => exact endCommand_writerFrame .ok s

/-- The WRITE_CPSR step writes CACHE and nothing else of the frame (42_config_cache.md R113). -/
theorem writeCpsrStep_writerFrame (s : State) :
    WriterFrame (s.setCache { valid := true, image := s.seq.cand }) (writeCpsrStep s) := by
  simp [writeCpsrStep]

/-! ### The other agents -/

theorem relWaitStep_writerFrame (k : Nat) (s : State) : WriterFrame s (relWaitStep k s) := by
  unfold relWaitStep
  split
  · split <;> simp
  · exact .refl s

theorem acquireStep_writerFrame (k : Nat) (s : State) : WriterFrame s (acquireStep k s) := by
  obtain ⟨cfg, tx, rx, -, -, -, h⟩ | ⟨-, -, h⟩ | h := acquireStep_cases k s
  · rw [h]; simp [startTransfer]
  · rw [h]; exact writerFrame_halt s _
  · rw [h]; exact .refl s

theorem memWriteStep_writerFrame (a : Addr) (v : Byte) (s : State) : WriterFrame s (memWriteStep a v s) := by
  unfold memWriteStep
  split <;> simp

theorem frameStartStep_writerFrame (s : State) : WriterFrame s (frameStartStep s) := by
  unfold frameStartStep
  split
  · exact .refl s
  · split
    · split
      · exact writerFrame_halt s _
      · simp
    · exact .refl s

/-- A frame completion sets RORRIS or writes nothing of the frame (44_pump_engine.md R135, R136). -/
theorem frameDoneStep_writerFrame (miso : Byte) (s : State) :
    WriterFrame s (frameDoneStep miso s) ∨ WriterFrame (s.setRorris true) (frameDoneStep miso s) := by
  unfold frameDoneStep receive
  dsimp only
  split
  · split
    · left; simp
    · right; simp
  · exact .inl (.refl s)

theorem timeoutSetStep_writerFrame (s : State) :
    WriterFrame s (timeoutSetStep s) ∨ WriterFrame (s.setRtris true) (timeoutSetStep s) := by
  unfold timeoutSetStep
  split
  · exact .inr (.refl _)
  · exact .inl (.refl _)

theorem timeoutClearStep_writerFrame (s : State) :
    WriterFrame s (timeoutClearStep s) ∨ WriterFrame (s.setRtris false) (timeoutClearStep s) := by
  unfold timeoutClearStep
  split
  · exact .inr (.refl _)
  · exact .inl (.refl _)

/-! ### Everything a turn can write -/

/-- The writes to the frame, each by the turn that makes it: the next state is that of the write but for parts outside
the frame and events appended to TRACE. -/
inductive WriterEffect (s : State) : Turn → State → Prop where
  /-- Nothing of the frame was written. -/
  | none (u : Turn) {t : State} (frame : WriterFrame s t) : WriterEffect s u t
  /-- A frame completed while RXFIFO was full (44_pump_engine.md R136). -/
  | overrun (miso : Byte) {t : State} (frame : WriterFrame (s.setRorris true) t) : WriterEffect s (.frameDone miso) t
  /-- A draw of RTRIS (44_pump_engine.md R137). -/
  | timeoutSet {t : State} (frame : WriterFrame (s.setRtris true) t) : WriterEffect s .timeoutSet t
  | timeoutClear {t : State} (frame : WriterFrame (s.setRtris false) t) : WriterEffect s .timeoutClear t
  /-- WR_ICR (40_register_access.md R94). -/
  | wrIcr (w : Word) {t : State} (frame : WriterFrame (clearIcr w s) t) :
      WriterEffect s (.host { selector := 0x160, wdata := w }) t
  /-- INIT (45_controller_sequencer.md R151). -/
  | init (k : Nat) (c : CmdRequest) (op : c.op = 0) {t : State} (frame : WriterFrame (s.setClk true) t) :
      WriterEffect s (.client k c) t
  /-- The WRITE_CPSR step (42_config_cache.md R113). -/
  | writeCpsr (state : s.seq.state = .writeCpsr) {t : State}
      (frame : WriterFrame (s.setCache { valid := true, image := s.seq.cand }) t) : WriterEffect s .seq t

theorem runRequest_writerEffect {q : Request} {s t : State} (h : runRequest q s = .next t) :
    WriterEffect s (requestTurn q) t := by
  unfold runRequest at h
  split at h
  · rename_i i hi
    obtain hf | ⟨w, rfl, hf⟩ | ⟨k, rfl, hf⟩ := exec_writerFrame h
    · exact .none _ hf
    · rw [decode_wrIcr hi]; exact .wrIcr w hf
    · obtain ⟨c, rfl, hop⟩ := decode_init hi
      exact .init k c hop hf
  · obtain ⟨f, rfl⟩ := rejectRequest_next h
    exact .none _ (writerFrame_halt s _)

theorem seqStep_writerEffect (s : State) : WriterEffect s .seq (seqStep s) := by
  by_cases hs : s.seq.state = .writeCpsr
  · have hstep : seqStep s = writeCpsrStep s := by simp [seqStep, hs]
    rw [hstep]
    exact .writeCpsr hs (writeCpsrStep_writerFrame s)
  · exact .none _ (seqStep_writerFrame hs)

/-- Every turn makes one of the named writes to the frame, or none. -/
theorem runTurn_writerEffect {u : Turn} {s t : State} (h : runTurn u s = .next t) : WriterEffect s u t := by
  cases u with
  | host r => exact runRequest_writerEffect (q := .bus r) h
  | client k c => exact runRequest_writerEffect (q := .cmd k c) h
  | relWait k => cases h; exact .none _ (relWaitStep_writerFrame k s)
  | acquire k => cases h; exact .none _ (acquireStep_writerFrame k s)
  | seq => cases h; exact seqStep_writerEffect s
  | frameStart => cases h; exact .none _ (frameStartStep_writerFrame s)
  | frameDone miso => cases h; exact (frameDoneStep_writerFrame miso s).elim (.none _) (.overrun miso)
  | timeoutSet => cases h; exact (timeoutSetStep_writerFrame s).elim (.none _) .timeoutSet
  | timeoutClear => cases h; exact (timeoutClearStep_writerFrame s).elim (.none _) .timeoutClear
  | memWrite a v => cases h; exact .none _ (memWriteStep_writerFrame a v s)

/-- Every step makes one of the named writes to the frame, or none; choosing the turn changes the schedule only. -/
theorem step_writerEffect {s t : State} (h : step s = .next t) : ∃ e, WriterEffect (s.setEnv e) s.nextTurn t := by
  obtain ⟨-, -, hrun⟩ := step_next h
  obtain ⟨e, he⟩ := turnTaken_env s
  exact ⟨e, runTurn_writerEffect (he ▸ hrun)⟩

/-! ### The writers of each part -/

section
variable {s t : State} {u : Turn}

theorem WriterEffect.rorris_writer (h : WriterEffect s u t) (hne : t.regs.rorris ≠ s.regs.rorris) :
    (t.regs.rorris = true ∧ ∃ m, u = .frameDone m) ∨
      (t.regs.rorris = false ∧ ∃ w, u = .host { selector := 0x160, wdata := w } ∧ w.getLsbD 0 = true) := by
  cases h with
  | overrun miso hf => exact .inl ⟨hf.rorris, miso, rfl⟩
  | wrIcr w hf =>
    have hr : t.regs.rorris = if w.getLsbD 0 then false else s.regs.rorris := hf.rorris
    cases hw : w.getLsbD 0 with
    | true => exact .inr ⟨by rw [hr, hw]; rfl, w, rfl, hw⟩
    | false => exact absurd (by rw [hr, hw]; rfl) hne
  | none _ hf | timeoutSet hf | timeoutClear hf | init _ _ _ hf | writeCpsr _ hf => exact absurd hf.rorris hne

theorem WriterEffect.rtris_writer (h : WriterEffect s u t) (hne : t.regs.rtris ≠ s.regs.rtris) :
    (t.regs.rtris = true ∧ u = .timeoutSet) ∨
      (t.regs.rtris = false ∧
        (u = .timeoutClear ∨ ∃ w, u = .host { selector := 0x160, wdata := w } ∧ w.getLsbD 1 = true)) := by
  cases h with
  | timeoutSet hf => exact .inl ⟨hf.rtris, rfl⟩
  | timeoutClear hf => exact .inr ⟨hf.rtris, .inl rfl⟩
  | wrIcr w hf =>
    have hr : t.regs.rtris = if w.getLsbD 1 then false else s.regs.rtris := hf.rtris
    cases hw : w.getLsbD 1 with
    | true => exact .inr ⟨by rw [hr, hw]; rfl, .inr ⟨w, rfl, hw⟩⟩
    | false => exact absurd (by rw [hr, hw]; rfl) hne
  | none _ hf | overrun _ hf | init _ _ _ hf | writeCpsr _ hf => exact absurd hf.rtris hne

theorem WriterEffect.cache_writer (h : WriterEffect s u t) (hne : t.cache ≠ s.cache) :
    u = .seq ∧ s.seq.state = .writeCpsr ∧ t.cache = { valid := true, image := s.seq.cand } := by
  cases h with
  | writeCpsr hs hf => exact ⟨rfl, hs, hf.cache⟩
  | none _ hf | overrun _ hf | timeoutSet hf | timeoutClear hf | wrIcr _ hf | init _ _ _ hf => exact absurd hf.cache hne

/-- The clock is left as it was, or INIT turned it on. -/
theorem WriterEffect.clk_cases (h : WriterEffect s u t) :
    t.clk = s.clk ∨ (t.clk = true ∧ ∃ k c, u = .client k c ∧ c.op = 0) := by
  cases h with
  | init k c hop hf => exact .inr ⟨hf.clk, k, c, rfl, hop⟩
  | none _ hf | overrun _ hf | timeoutSet hf | timeoutClear hf | wrIcr _ hf | writeCpsr _ hf => exact .inl hf.clk

/-- None of the writes touches TRACE, the parameters or the number of clients. -/
theorem WriterEffect.keeps (h : WriterEffect s u t) : s.trace <+: t.trace ∧ t.par = s.par ∧ t.nClients = s.nClients := by
  cases h with
  | none _ hf | overrun _ hf | timeoutSet hf | timeoutClear hf | wrIcr _ hf | init _ _ _ hf | writeCpsr _ hf =>
    exact ⟨hf.trace, hf.par, hf.nClients⟩

end

/-- Settles O55: the writes to RORRIS and RTRIS among those a step can make. -/
theorem interruptLatchWriters : Obligations.InterruptLatchWriters := by
  intro s t h
  obtain ⟨e, hw⟩ := step_writerEffect h
  exact ⟨hw.rorris_writer, hw.rtris_writer⟩

/-- Settles O56: the writes to CACHE and the clock enable among those a step can make, and what every write keeps. -/
theorem cacheClockTraceAndParameterWriters : Obligations.CacheClockTraceAndParameterWriters := by
  intro s t h
  obtain ⟨e, hw⟩ := step_writerEffect h
  obtain ⟨⟨es, htrace⟩, hpar, hclients⟩ := hw.keeps
  refine ⟨hw.cache_writer, fun hon => ?_, fun hne => ?_, ⟨es, htrace.symm⟩, hpar, hclients⟩
  · exact hw.clk_cases.elim (fun hclk => hclk.trans hon) And.left
  · exact hw.clk_cases.elim (absurd · hne) And.right

end Sys2Proof.Machine
end

section
/-! Decoding a request, said once for both interfaces: which instruction each BUS selector and each operation code
gives, that it carries the request's words, and what runs in its place where there is none (spec/30_encoding.md R64 to R71). -/
namespace Sys2Proof.Machine

/-! ### The step of a request -/

theorem runRequest_of_decode_ok {r : Request} {i : Instr} (h : decode r = .ok i) (s : State) :
    runRequest r s = exec i s := by
  simp only [runRequest, h]

theorem runRequest_of_decode_error {r : Request} {e : DecodeError} (h : decode r = .error e) (s : State) :
    runRequest r s = rejectRequest e s := by
  simp only [runRequest, h]

@[simp] theorem runTurn_requestTurn (r : Request) (s : State) : runTurn (requestTurn r) s = runRequest r s := by
  cases r <;> rfl

/-- A running state takes the turn at the head of its schedule (45_controller_sequencer.md R154). -/
theorem step_of_schedule {s : State} {u : Turn} {us : List Turn} (hrun : s.running) (h : s.env.schedule = u :: us) :
    step s = runTurn u { s with env := { s.env with schedule := us } } := by
  have hhalt : s.halted = none := (halted_none_iff s).2 hrun
  have hnext : s.nextTurn = u := by simp only [State.nextTurn, h]
  have htaken : s.turnTaken = { s with env := { s.env with schedule := us } } := by
    simp only [State.turnTaken, h, State.setEnv]
  simp only [step, hhalt, hnext, htaken]

/-- A running state with a request placed before its schedule runs that request. -/
theorem step_given_requestTurn {s : State} (hrun : s.running) (r : Request) :
    step (s.given (requestTurn r)) = runRequest r s := by
  have hrun' : (s.given (requestTurn r)).running := hrun
  rw [step_of_schedule hrun' rfl, runTurn_requestTurn]
  rfl

/-- A table word that decodes is a request of its interface, which `withFetchWord` places before the schedule. -/
theorem withFetchWord_of_decodeTableWord {nbits w : Nat} {i : Instr} (h : decodeTableWord nbits w = some i)
    (s : State) :
    ∃ r, decode r = .ok i ∧ s.withFetchWord nbits w = s.given (requestTurn r) := by
  unfold decodeTableWord at h
  split at h
  · cases h
  · rename_i r hr
    split at h
    · rename_i hi
      cases h
      exact ⟨r, hi, by simp only [State.withFetchWord, hr, State.given]⟩
    · cases h

/-- Settles O5: a request's turn runs its decoded instruction, and `withFetchWord` places the turn of its request. -/
theorem stepRunsDecodedInstruction : Obligations.StepRunsDecodedInstruction := by
  refine ⟨fun s r i ts hrun hsched hdec => ?_, fun s nbits w i hrun hdec => ?_⟩
  · rw [step_of_schedule hrun hsched, runTurn_requestTurn, runRequest_of_decode_ok hdec]
  · obtain ⟨r, hr, hplace⟩ := withFetchWord_of_decodeTableWord hdec s
    rw [hplace, step_given_requestTurn hrun, runRequest_of_decode_ok hr]

/-! ### BUS selectors -/

theorem decodeBus_of_selSize_ne {r : BusRequest} (h : selSize r.selector ≠ 2) :
    decodeBus r = .error (.busWidth r.selector) :=
  if_pos h

/-- With SZ = 0b10 the offset and the direction select the row of R65, if there is one (R64). -/
theorem decodeBus_of_selSize {r : BusRequest} (h : selSize r.selector = 2) :
    decodeBus r =
      (decodeRegister (selOff r.selector) (selWrite r.selector) r.wdata).elim
        (.error (.busUnmapped r.selector)) .ok := by
  rw [decodeBus, if_neg (not_not.mpr h)]
  cases decodeRegister (selOff r.selector) (selWrite r.selector) r.wdata <;> rfl

/-- An offset selects a register exactly when it is a multiple of 4 below 0x28 (R64). -/
theorem decodeRegister_eq_none_iff (off : BitVec 6) (write : Bool) (wdata : Word) :
    decodeRegister off write wdata = none ↔ off.toNat % 4 ≠ 0 ∨ 0x28 ≤ off.toNat := by
  unfold decodeRegister
  split
  -- past the ten rows the offset is none of theirs
  case h_11 =>
    simp only [imp_false, true_iff] at *
    omega
  all_goals simp [*]

/-- The instruction of a row of R65 is encoded as SZ = 0b10 with the row's direction and offset, and a write carries
WDATA (R63). -/
theorem encode_of_decodeRegister {off : BitVec 6} {write : Bool} {wdata : Word} {i : Instr}
    (h : decodeRegister off write wdata = some i) :
    ∃ b : BusRequest, encode i = .bus b ∧ b.selector = (2 : BitVec 2) ++ BitVec.ofBool write ++ off ∧
      (write = true → b.wdata = wdata) := by
  -- in this form the row's numeral replaces the offset
  have hoff : off = BitVec.ofNat 6 off.toNat := by simp
  rw [hoff]
  unfold decodeRegister at h
  split at h
  case h_11 => cases h
  all_goals
    rename_i hrow
    rw [hrow]
    cases write <;> cases h <;> exact ⟨_, rfl, rfl, by simp⟩

theorem carriesWords_of_decodeBus {r : BusRequest} {i : Instr} (h : decodeBus r = .ok i) : carriesWords (.bus r) i := by
  obtain ⟨hsize, hreg⟩ := decodeBus_ok h
  obtain ⟨b, henc, hsel, hwdata⟩ := encode_of_decodeRegister hreg
  have hsel' : r.selector = b.selector := by rw [hsel, ← hsize]; exact selector_eq_fields r.selector
  simp only [carriesWords, henc]
  exact ⟨hsel', fun hwrite => (hwdata (hsel' ▸ hwrite)).symm⟩

/-- An access of another size raises BUS_WIDTH, after the check of the clock (R64, 40_register_access.md R76). -/
theorem runRequest_of_selSize_ne {r : BusRequest} (h : selSize r.selector ≠ 2) (s : State) :
    runRequest (.bus r) s =
      .next { s with fault := some (if s.clk then .busWidth r.selector else .notClockedBus r.selector) } := by
  have hdec : decode (.bus r) = .error (.busWidth r.selector) := decodeBus_of_selSize_ne h
  rw [runRequest_of_decode_error hdec]
  rfl

/-- An offset that selects no register raises BUS_UNMAPPED, after the check of the clock (R64, R76). -/
theorem runRequest_of_selOff_unmapped {r : BusRequest} (hsize : selSize r.selector = 2)
    (hoff : (selOff r.selector).toNat % 4 ≠ 0 ∨ 0x28 ≤ (selOff r.selector).toNat) (s : State) :
    runRequest (.bus r) s =
      .next { s with fault := some (if s.clk then .busUnmapped r.selector else .notClockedBus r.selector) } := by
  have hdec : decode (.bus r) = .error (.busUnmapped r.selector) := by
    rw [decode, decodeBus_of_selSize hsize, (decodeRegister_eq_none_iff _ _ _).2 hoff]
    rfl
  rw [runRequest_of_decode_error hdec]
  rfl

/-- Every other selector decodes to a row of R65. -/
theorem decode_bus_row {r : BusRequest} (hsize : selSize r.selector = 2) (halign : (selOff r.selector).toNat % 4 = 0)
    (hlow : (selOff r.selector).toNat < 0x28) : ∃ i, decode (.bus r) = .ok i := by
  have hrow : decodeRegister (selOff r.selector) (selWrite r.selector) r.wdata ≠ none := by
    rw [Ne, decodeRegister_eq_none_iff]
    omega
  obtain ⟨i, hi⟩ := Option.ne_none_iff_exists'.1 hrow
  exact ⟨i, by rw [decode, decodeBus_of_selSize hsize, hi]; rfl⟩

/-- Settles O2: the size decides BUS_WIDTH, then the offset decides BUS_UNMAPPED, and the rest are rows of R65. -/
theorem busSelectorOutcome : Obligations.BusSelectorOutcome := by
  intro r s hclk
  refine ⟨fun hsize => ?_, fun hsize hoff => ?_, fun hsize halign hlow => ?_⟩
  · simpa [hclk] using runRequest_of_selSize_ne hsize s
  · simpa [hclk] using runRequest_of_selOff_unmapped hsize hoff s
  · obtain ⟨i, hdec⟩ := decode_bus_row hsize halign hlow
    exact ⟨i, hdec, carriesWords_of_decodeBus hdec, runRequest_of_decode_ok hdec s⟩

/-! ### Commands -/

theorem cmdGuard_of_unclocked {op : BitVec 4} {s : State} (hclk : s.clk = false) (hop : op ≠ 0) (k : Nat)
    (cfg : Option CfgWord) : cmdGuard op k cfg s = some (.fault (.notClockedCmd op)) :=
  if_pos ⟨hclk, hop⟩

theorem cmdGuard_of_pending {op : BitVec 4} {k : Nat} {s : State} (hclk : s.clk = true ∨ op = 0)
    (hpend : (s.slot k).pending = true) (cfg : Option CfgWord) :
    cmdGuard op k cfg s = some (.fault (.commandWhilePending k)) := by
  have hclocked : ¬ (s.clk = false ∧ op ≠ 0) := fun h => hclk.elim (by simp [h.1]) h.2
  simp only [cmdGuard, hclocked, if_false, hpend, if_true]

theorem cmdGuard_of_reserved {op : BitVec 4} {k : Nat} {c : CfgWord} {s : State} (hclk : s.clk = true)
    (hfree : (s.slot k).pending = false) (hres : cfgReserved c ≠ 0) :
    cmdGuard op k (some c) s = some (.refusal .cfgReserved) := by
  simpa [cmdGuard, hclk, hfree] using hres

theorem command_of_cmdGuard {op : BitVec 4} {k : Nat} {cfg : Option CfgWord} {s : State} {stop : Stop}
    (hk : k < s.nClients) (h : cmdGuard op k cfg s = some stop) (own : Option Stop) (issue : State → State) :
    command op k cfg own issue s = .next (s.halt stop) := by
  simp only [command, hk, if_true, h]

/-- An instruction whose meaning is a command of a client that exists makes the checks of R71. -/
theorem commandStops_of_command {op : BitVec 4} {k : Nat} {cfg : Option CfgWord} {own : Option Stop}
    {issue : State → State} {i : Instr} {s : State} (hk : k < s.nClients)
    (hexec : exec i s = command op k cfg own issue s) : commandStops op k cfg i s := by
  have hstop (stop : Stop) (hguard : cmdGuard op k cfg s = some stop) : exec i s = .next (s.halt stop) :=
    hexec.trans (command_of_cmdGuard hk hguard own issue)
  refine ⟨fun hclk hop => ?_, fun hclk hpend => ?_, fun hclk hfree c hcfg hres => ?_⟩
  · exact hstop _ (cmdGuard_of_unclocked hclk hop k cfg)
  · exact hstop _ (cmdGuard_of_pending hclk hpend cfg)
  · exact hstop _ (hcfg ▸ cmdGuard_of_reserved hclk hfree hres)

section
variable {k : Nat} {cfg : CfgWord} {tx rx : BufSet} {s : State}

theorem commandStops_init (hk : k < s.nClients) : commandStops 0 k none (.init k) s :=
  commandStops_of_command hk rfl

theorem commandStops_configure (hk : k < s.nClients) : commandStops 1 k (some cfg) (.configure k cfg) s :=
  commandStops_of_command hk rfl

theorem commandStops_transceive (hk : k < s.nClients) : commandStops 2 k (some cfg) (.transceive k cfg tx rx) s :=
  commandStops_of_command (issue := fun t => t.setSlot k (.waitLock cfg tx rx)) hk rfl

theorem commandStops_release (hk : k < s.nClients) : commandStops 3 k (some cfg) (.release k cfg) s :=
  commandStops_of_command (own := none) (issue := fun t => t.setSlot k .relWait) hk rfl

theorem commandStops_transceiveAsync (hk : k < s.nClients) :
    commandStops 4 k (some cfg) (.transceiveAsync k cfg tx rx) s :=
  commandStops_of_command (own := none) (issue := fun t => t.finish k .notSupported) hk rfl

end

/-- The CFG operand of a command: every row of R67 but INIT's lists one. -/
def cfgOperand (c : CmdRequest) : Option CfgWord := if c.op = 0 then none else some c.cfg

theorem cfgOperand_of_op_pos {c : CmdRequest} (h : 1 ≤ c.op.toNat) : cfgOperand c = some c.cfg := by
  refine if_neg fun hop => ?_
  simp [hop] at h

theorem decodeCmd_of_reserved {k : Nat} {c : CmdRequest} (h : 5 ≤ c.op.toNat) :
    decodeCmd k c = .error (.reservedCommand k c.op) := by
  unfold decodeCmd
  split
  case h_6 => rfl
  all_goals omega

/-- An OP below 5 is a row of R67: the request carries the instruction's words, and the instruction makes the checks of
R71 for that OP, the client and the row's CFG operand. -/
theorem decode_cmd_row (k : Nat) {c : CmdRequest} (h : c.op.toNat < 5) :
    ∃ i, decode (.cmd k c) = .ok i ∧ carriesWords (.cmd k c) i ∧
      ∀ s : State, k < s.nClients → commandStops c.op k (cfgOperand c) i s := by
  obtain ⟨op, cfg, tx, rx⟩ := c
  have hop : op = 0 ∨ op = 1 ∨ op = 2 ∨ op = 3 ∨ op = 4 := by bv_omega
  obtain rfl | rfl | rfl | rfl | rfl := hop
  · exact ⟨.init k, rfl, ⟨rfl, rfl, by simp, by simp⟩, fun s hk => commandStops_init hk⟩
  · exact ⟨.configure k cfg, rfl, ⟨rfl, rfl, fun _ => rfl, by simp⟩, fun s hk => commandStops_configure hk⟩
  · exact ⟨.transceive k cfg tx rx, rfl, ⟨rfl, rfl, fun _ => rfl, fun _ => ⟨rfl, rfl⟩⟩,
      fun s hk => commandStops_transceive hk⟩
  · exact ⟨.release k cfg, rfl, ⟨rfl, rfl, fun _ => rfl, by simp⟩, fun s hk => commandStops_release hk⟩
  · exact ⟨.transceiveAsync k cfg tx rx, rfl, ⟨rfl, rfl, fun _ => rfl, fun _ => ⟨rfl, rfl⟩⟩,
      fun s hk => commandStops_transceiveAsync hk⟩

/-- A reserved OP of a client that exists raises its fault, after the check of the clock (R71). -/
theorem runRequest_of_reserved {k : Nat} {c : CmdRequest} {s : State} (hk : k < s.nClients) (h : 5 ≤ c.op.toNat) :
    runRequest (.cmd k c) s =
      .next { s with fault := some (if s.clk then .reservedCommand c.op else .notClockedCmd c.op) } := by
  have hdec : decode (.cmd k c) = .error (.reservedCommand k c.op) := decodeCmd_of_reserved h
  rw [runRequest_of_decode_error hdec, rejectRequest, if_pos hk]
  rfl

/-- Settles O4: a reserved OP makes the first two checks, and the command of every other OP makes those of its row. -/
theorem commandCheckOrder : Obligations.CommandCheckOrder := by
  intro k c s hk
  obtain hres | hrow := (Nat.lt_or_ge c.op.toNat 5).symm
  · have hrun := runRequest_of_reserved hk hres
    refine ⟨fun hclk _ => ?_, fun hclk _ => ?_, fun _ _ _ => ?_, fun _ _ _ _ _ => ?_, fun _ => ?_⟩
    · simpa [hclk] using hrun
    · simpa [hclk] using hrun
    all_goals omega
  · obtain ⟨i, hdec, hwords, hstops⟩ := decode_cmd_row k hrow
    have hrun : runRequest (.cmd k c) s = exec i s := runRequest_of_decode_ok hdec s
    obtain ⟨hunclocked, hpending, hreserved⟩ := hstops s hk
    rw [hrun]
    refine ⟨hunclocked, fun _ _ => by omega, fun hclk _ => hpending hclk, fun hclk hpos _ hfree => ?_,
      fun _ => ⟨i, hdec, hwords, rfl⟩⟩
    exact hreserved hclk hfree c.cfg (cfgOperand_of_op_pos hpos)

/-- Settles O3: the five words evaluate to their rows of R65 and R67. -/
theorem sampleWordsDecode : Obligations.SampleWordsDecode := ⟨rfl, rfl, rfl, rfl, rfl⟩

end Sys2Proof.Machine
end

section
/-! BUS transactions, said once for all twenty: which checks each makes and what is left of it when they let it through,
what each rule does, and the writers of DMACR (spec/40_register_access.md R76 to R96). -/
namespace Sys2Proof.Machine

/-! ### The checks of a transaction -/

theorem busGuard_of_unclocked {s : State} (hclk : s.clk = false) (b : BitVec 9) :
    busGuard b s = some (.fault (.notClockedBus b)) :=
  if_pos hclk

theorem busGuard_of_running {b : BitVec 9} {s : State} (hclk : s.clk = true) (hrun : s.seq.op ≠ .none)
    (hb : selWrite b = true ∨ b = 0x108) : busGuard b s = some (.fault (.hostDuringTransfer b)) := by
  rw [busGuard, if_neg (by simp [hclk]), if_pos ⟨hrun, hb⟩]

section
variable {b : BitVec 9} {own : Option Stop} {rule : State → State} {w : Word} {s : State} {stop : Stop}

theorem busRead_of_busGuard (h : busGuard b s = some stop) : busRead b rule s = s.halt stop := by
  simp only [busRead, h]

theorem busWrite_of_busGuard (h : busGuard b s = some stop) : busWrite b w own rule s = s.halt stop := by
  simp only [busWrite, h]

/-- A read of any register but DR follows its rule whenever the clock is on, whatever SEQ does (R76). -/
theorem busRead_of_clocked (hclk : s.clk = true) (hb : ¬ (selWrite b = true ∨ b = 0x108)) :
    busRead b rule s = rule s := by
  simp only [busRead, (busGuard_none_iff b s).2 ⟨hclk, .inr hb⟩]

/-- A write with its own check passed, while SEQ runs no command, emits its REGW event and follows its rule (R76). -/
theorem busWrite_of_idle (hclk : s.clk = true) (hidle : s.seq.op = .none) :
    busWrite b w none rule s = rule (s.emit (.regw .host (selOff b) w)) := by
  simp only [busWrite, (busGuard_none_iff b s).2 ⟨hclk, .inl hidle⟩]

/-- A write that its own check stops makes no other change. -/
theorem busWrite_of_own (hclk : s.clk = true) (hidle : s.seq.op = .none) :
    busWrite b w (some stop) rule s = s.halt stop := by
  simp only [busWrite, (busGuard_none_iff b s).2 ⟨hclk, .inl hidle⟩]

end

/-! ### The rows of R65 -/

/-- The meaning of instruction `i` with selector `b` in state `s`: a read, whose rule changes RDATA only (and, for ICR,
the draw counter) unless it reads DR, or a write. -/
inductive BusMeaning (b : BitVec 9) (i : Instr) (s : State) : Prop where
  | read (rule : State → State) (dir : selWrite b = false) (meaning : exec i s = .next (busRead b rule s))
      (effect : b ≠ 0x108 → ∃ v, rule s =
        { s with rdata := v, env := { s.env with draws := if b = 0x120 then s.env.draws + 1 else s.env.draws } })
  | write (w : Word) (own : Option Stop) (rule : State → State) (dir : selWrite b = true)
      (meaning : exec i s = .next (busWrite b w own rule s))

/-- Every instruction that a BUS selector encodes is a read or a write with that selector. -/
theorem busMeaning_of_encode {i : Instr} {r : BusRequest} (h : encode i = .bus r) (s : State) :
    BusMeaning r.selector i s := by
  cases i with
  | rdDr => cases h; exact .read popDr rfl rfl (absurd rfl)
  | rdCr0 | rdCr1 | rdSr | rdCpsr | rdImsc | rdRis | rdMis | rdIcr | rdDmacr =>
    cases h; exact .read _ rfl rfl fun _ => ⟨_, rfl⟩
  | wrCr0 w | wrCr1 w | wrDr w | wrSr w | wrCpsr w | wrImsc w | wrRis w | wrMis w | wrIcr w | wrDmacr w =>
    -- the selector evaluates once it is a literal rather than a field of the request
    cases h; dsimp only; exact .write w _ _ rfl rfl
  | init | configure | transceive | release | transceiveAsync => cases h

/-- Every BUS transaction makes the checks of R76. -/
theorem busStops_of_encode {i : Instr} {r : BusRequest} (h : encode i = .bus r) (s : State) :
    busStops r.selector i s := by
  have hstop {stop : Stop} (hguard : busGuard r.selector s = some stop) : exec i s = .next (s.halt stop) := by
    cases busMeaning_of_encode h s with
    | read rule _ hexec => rw [hexec, busRead_of_busGuard hguard]
    | write w own rule _ hexec => rw [hexec, busWrite_of_busGuard hguard]
  exact ⟨fun hclk => hstop (busGuard_of_unclocked hclk _), fun hclk hrun hb => hstop (busGuard_of_running hclk hrun hb)⟩

/-- With the clock on, a read of any register but DR changes RDATA only, and a read of ICR the draw counter (R76). -/
theorem exec_read_of_encode {i : Instr} {r : BusRequest} (h : encode i = .bus r) {s : State} (hclk : s.clk = true)
    (hb : ¬ (selWrite r.selector = true ∨ r.selector = 0x108)) :
    ∃ v, exec i s = .next
      { s with
        rdata := v
        env := { s.env with draws := if r.selector = 0x120 then s.env.draws + 1 else s.env.draws } } := by
  cases busMeaning_of_encode h s with
  | read rule _ hexec heffect =>
    obtain ⟨v, hv⟩ := heffect fun hdr => hb (.inr hdr)
    exact ⟨v, by rw [hexec, busRead_of_clocked hclk hb, hv]⟩
  | write w own rule hdir => exact absurd (.inl hdir) hb

/-- A decoded selector is that of its instruction's encoding (R65). -/
theorem encode_of_decode_bus {r : BusRequest} {i : Instr} (h : decode (.bus r) = .ok i) :
    ∃ b : BusRequest, encode i = .bus b ∧ b.selector = r.selector := by
  obtain ⟨hsize, hreg⟩ := decodeBus_ok h
  obtain ⟨b, henc, hsel, -⟩ := encode_of_decodeRegister hreg
  exact ⟨b, henc, by rw [hsel, ← hsize, ← selector_eq_fields]⟩

/-- A selector of R65 runs an instruction that encodes to it. -/
theorem runRequest_bus_row {r : BusRequest} (hsize : selSize r.selector = 2)
    (halign : (selOff r.selector).toNat % 4 = 0) (hlow : (selOff r.selector).toNat < 0x28) :
    ∃ (i : Instr) (b : BusRequest), encode i = .bus b ∧ b.selector = r.selector ∧
      ∀ s, runRequest (.bus r) s = exec i s := by
  obtain ⟨i, hdec⟩ := decode_bus_row hsize halign hlow
  obtain ⟨b, henc, hsel⟩ := encode_of_decode_bus hdec
  exact ⟨i, b, henc, hsel, runRequest_of_decode_ok hdec⟩

/-- With the clock off every selector raises NOT_CLOCKED, whether or not it decodes (R64, R76). -/
theorem runRequest_bus_of_unclocked {s : State} (hclk : s.clk = false) (r : BusRequest) :
    runRequest (.bus r) s = .next { s with fault := some (.notClockedBus r.selector) } := by
  by_cases hsize : selSize r.selector = 2
  · by_cases hoff : (selOff r.selector).toNat % 4 ≠ 0 ∨ 0x28 ≤ (selOff r.selector).toNat
    · simpa [hclk] using runRequest_of_selOff_unmapped hsize hoff s
    · obtain ⟨i, b, henc, hsel, hexec⟩ := runRequest_bus_row (r := r) hsize (by omega) (by omega)
      rw [hexec, ← hsel]
      exact (busStops_of_encode henc s).1 hclk
  · simpa [hclk] using runRequest_of_selSize_ne hsize s

/-- Settles O19: the decode faults are those of R64, and a selector that decodes is a read or a write of its own row,
which makes the checks of R76 and, past them, changes RDATA only. -/
theorem hostLeavesRunningCommandAlone : Obligations.HostLeavesRunningCommandAlone := by
  intro r s admitted excluded
  refine ⟨fun hclk => runRequest_bus_of_unclocked hclk r, fun hclk hrun => ⟨fun hsize => ?_, fun hsize hno => ?_,
    fun ⟨hsize, halign, hlow⟩ hex => ?_, fun ⟨hsize, halign, hlow⟩ hex => ?_⟩⟩
  · simpa [hclk] using runRequest_of_selSize_ne hsize s
  · have hoff : (selOff r.selector).toNat % 4 ≠ 0 ∨ 0x28 ≤ (selOff r.selector).toNat := by
      by_contra! hrow
      exact hno ⟨hsize, hrow⟩
    simpa [hclk] using runRequest_of_selOff_unmapped hsize hoff s
  · obtain ⟨i, b, henc, hsel, hexec⟩ := runRequest_bus_row hsize halign hlow
    rw [hexec, ← hsel]
    exact (busStops_of_encode henc s).2 hclk hrun (hsel ▸ hex)
  · obtain ⟨i, b, henc, hsel, hexec⟩ := runRequest_bus_row hsize halign hlow
    rw [hexec, ← hsel]
    exact exec_read_of_encode henc hclk (hsel ▸ hex)

/-! ### Status words, bit by bit -/

/-- SR's bits from bit 0 up; the rest read 0 (10_state.md R22). -/
theorem State.getLsbD_readSr (s : State) (i : Nat) :
    s.readSr.getLsbD i = [s.tfe, s.tnf, s.rne, s.rff, s.bsy].getD i false := by
  simp only [State.readSr, BitVec.getLsbD_setWidth, BitVec.getLsbD_append, BitVec.getLsbD_ofBool]
  match i with
  | 0 | 1 | 2 | 3 | 4 => simp
  | i + 5 => simp

/-- RIS's bits from bit 0 up; the rest read 0 (10_state.md R25). -/
theorem State.getLsbD_readRis (s : State) (i : Nat) :
    s.readRis.getLsbD i = [s.regs.rorris, s.regs.rtris, s.rxris, s.txris].getD i false := by
  simp only [State.readRis, State.ris, BitVec.getLsbD_setWidth, BitVec.getLsbD_append, BitVec.getLsbD_ofBool]
  match i with
  | 0 | 1 | 2 | 3 => simp
  | i + 4 => simp

/-- MIS is RIS under the mask of IMSC (10_state.md R26). -/
theorem State.readMis_eq (s : State) : s.readMis = s.readRis &&& s.regs.imsc.setWidth 32 := BitVec.setWidth_and

theorem State.tfe_iff (s : State) : s.tfe = true ↔ s.txFifo.length = 0 := by simp [State.tfe]

theorem State.tnf_iff (s : State) : s.tnf = true ↔ s.txFifo.length < s.par.fifoDepth := by simp [State.tnf]

theorem State.rne_iff (s : State) : s.rne = true ↔ 0 < s.rxFifo.length := by simp only [State.rne, decide_eq_true_eq]

theorem State.rff_iff (s : State) : s.rff = true ↔ s.rxFifo.length = s.par.fifoDepth := by simp [State.rff]

theorem State.bsy_iff (s : State) : s.bsy = true ↔ s.ser.busy = true ∨ 0 < s.txFifo.length := by
  simp only [State.bsy, Bool.or_eq_true, decide_eq_true_eq]

theorem State.rxris_iff (s : State) : s.rxris = true ↔ s.par.fifoDepth / 2 ≤ s.rxFifo.length := by simp [State.rxris]

theorem State.txris_iff (s : State) : s.txris = true ↔ s.txFifo.length ≤ s.par.fifoDepth / 2 := by simp [State.txris]

/-! ### Reads -/

/-- An instruction whose meaning is a read that returns a value does so whenever the clock is on. -/
theorem exec_read {i : Instr} {b : BitVec 9} {f : State → Word} {s : State}
    (h : exec i s = .next (busRead b (fun t => t.setRdata (f t)) s)) (hclk : s.clk = true)
    (hb : ¬ (selWrite b = true ∨ b = 0x108)) : exec i s = .next { s with rdata := f s } := by
  rw [h, busRead_of_clocked hclk hb]
  rfl

/-- Settles O8: each of the four is a read of its own selector. -/
theorem readsReturnStoredFields : Obligations.ReadsReturnStoredFields := by
  intro s
  refine ⟨fun hclk => ⟨?_, ?_, ?_, ?_⟩, busStops_of_encode (i := .rdCr0) rfl s, busStops_of_encode (i := .rdCr1) rfl s,
    busStops_of_encode (i := .rdCpsr) rfl s, busStops_of_encode (i := .rdImsc) rfl s⟩
  · exact exec_read (b := 0x100) (f := State.readCr0) rfl hclk (by decide)
  · exact exec_read (b := 0x104) (f := State.readCr1) rfl hclk (by decide)
  · exact exec_read (b := 0x110) (f := State.readCpsr) rfl hclk (by decide)
  · exact exec_read (b := 0x114) (f := State.readImsc) rfl hclk (by decide)

/-- Settles O9: the value is SR, taken bit by bit. -/
theorem readOfStatus : Obligations.ReadOfStatus := by
  intro s
  refine ⟨fun hclk => ⟨s.readSr, exec_read (b := 0x10C) (f := State.readSr) rfl hclk (by decide), ?_⟩,
    busStops_of_encode (i := .rdSr) rfl s⟩
  simp only [State.getLsbD_readSr]
  exact ⟨s.tfe_iff, s.tnf_iff, s.rne_iff, s.rff_iff, s.bsy_iff, fun i hi => List.getD_eq_default _ _ hi⟩

/-- Settles O10: the values are RIS, taken bit by bit, and RIS under the mask of IMSC. -/
theorem readsOfInterruptStatus : Obligations.ReadsOfInterruptStatus := by
  intro s
  refine ⟨fun hclk => ⟨s.readRis, s.readMis, exec_read (b := 0x118) (f := State.readRis) rfl hclk (by decide),
    exec_read (b := 0x11C) (f := State.readMis) rfl hclk (by decide), ?_⟩,
    busStops_of_encode (i := .rdRis) rfl s, busStops_of_encode (i := .rdMis) rfl s⟩
  simp only [State.getLsbD_readRis]
  exact ⟨.rfl, .rfl, s.rxris_iff, s.txris_iff, fun i hi => List.getD_eq_default _ _ hi, s.readMis_eq⟩

/-! ### Writes -/

section
variable {i : Instr} {b : BitVec 9} {w : Word} {own : Option Stop} {rule : State → State} {s : State}

/-- An instruction whose meaning is a write that passes its own check emits the REGW event and follows its rule. -/
theorem exec_write (h : exec i s = .next (busWrite b w own rule s)) (hclk : s.clk = true) (hidle : s.seq.op = .none)
    (hown : own = none) : exec i s = .next (rule (s.emit (.regw .host (selOff b) w))) := by
  rw [h, hown, busWrite_of_idle hclk hidle]

/-- An instruction whose meaning is a write that its own check stops makes no other change. -/
theorem exec_write_of_own {stop : Stop} (h : exec i s = .next (busWrite b w own rule s)) (hclk : s.clk = true)
    (hidle : s.seq.op = .none) (hown : own = some stop) : exec i s = .next (s.halt stop) := by
  rw [h, hown, busWrite_of_own hclk hidle]

end

theorem pushDr_of_room {w : Word} {s : State} (h : s.txFifo.length < s.par.fifoDepth) :
    pushDr w s = s.pushTx (w.extractLsb' 0 16) :=
  if_pos h

theorem pushDr_of_full {w : Word} {s : State} (h : s.par.fifoDepth ≤ s.txFifo.length) : pushDr w s = s :=
  if_neg (Nat.not_lt.2 h)

theorem clearIcr_eq (w : Word) (s : State) :
    clearIcr w s =
      s.setRegs { s.regs with rorris := s.regs.rorris && !w.getLsbD 0, rtris := s.regs.rtris && !w.getLsbD 1 } := by
  have hclear (b x : Bool) : (if b then false else x) = (x && !b) := by cases b <;> simp
  simp only [clearIcr, hclear]

/-- Settles O12: each of the three is a write of its own selector, with no check of its own. -/
theorem writesStoreFields : Obligations.WritesStoreFields := by
  intro s w
  refine ⟨fun hclk hidle => ⟨?_, ?_, ?_⟩, busStops_of_encode (i := .wrCr0 w) rfl s,
    busStops_of_encode (i := .wrCpsr w) rfl s, busStops_of_encode (i := .wrImsc w) rfl s⟩
  · exact exec_write (b := 0x140) (rule := fun t => t.writeCr0 w) rfl hclk hidle rfl
  · exact exec_write (b := 0x150) (rule := fun t => t.writeCpsr w) rfl hclk hidle rfl
  · exact exec_write (b := 0x154) (rule := fun t => t.writeImsc w) rfl hclk hidle rfl

/-- Settles O13: the write's own check is that of R80. -/
theorem writeOfControl1 : Obligations.WriteOfControl1 := by
  intro s w
  refine ⟨fun hclk hidle => ⟨fun hclear => ?_, fun hkeep => ?_⟩, busStops_of_encode (i := .wrCr1 w) rfl s⟩
  · exact exec_write_of_own (own := cr1Check w s) rfl hclk hidle (if_pos hclear)
  · exact exec_write (b := 0x144) (rule := fun t => t.writeCr1 w) rfl hclk hidle (if_neg hkeep)

/-- Settles O14: whether the push has room does not depend on the REGW event. -/
theorem writeOfData : Obligations.WriteOfData := by
  intro s w
  refine ⟨fun hclk hidle => ?_, busStops_of_encode (i := .wrDr w) rfl s⟩
  have hexec := exec_write (i := .wrDr w) (b := 0x148) rfl hclk hidle rfl
  rw [hexec]
  refine ⟨fun hroom => ?_, fun hfull => ?_⟩
  · rw [pushDr_of_room (by simpa using hroom)]; rfl
  · rw [pushDr_of_full (by simpa using hfull)]; rfl

/-- Settles O15: each of the three is a write whose rule changes nothing. -/
theorem writesToReadOnlyIgnored : Obligations.WritesToReadOnlyIgnored := by
  intro s w
  refine ⟨fun hclk hidle => ⟨?_, ?_, ?_⟩, busStops_of_encode (i := .wrSr w) rfl s,
    busStops_of_encode (i := .wrRis w) rfl s, busStops_of_encode (i := .wrMis w) rfl s⟩
  · exact exec_write (b := 0x14C) (rule := noChange) rfl hclk hidle rfl
  · exact exec_write (b := 0x158) (rule := noChange) rfl hclk hidle rfl
  · exact exec_write (b := 0x15C) (rule := noChange) rfl hclk hidle rfl

/-- Settles O16: the rule clears each latch by its bit of WDATA. -/
theorem writeOfInterruptClear : Obligations.WriteOfInterruptClear := by
  intro s w
  refine ⟨fun hclk hidle => ?_, busStops_of_encode (i := .wrIcr w) rfl s⟩
  rw [exec_write (i := .wrIcr w) (b := 0x160) rfl hclk hidle rfl, clearIcr_eq]
  rfl

/-! ### DMACR -/

@[simp] theorem State.halt_regs (s : State) (stop : Stop) : (s.halt stop).regs = s.regs := by
  cases stop <;> rfl

/-- Every request keeps DMACR at 0: the one write of it that is not refused stores 0 (R96). -/
theorem ExecEffect.dmacr_eq_zero {s t : State} (h : ExecEffect s t) (hs : s.regs.dmacr = 0) : t.regs.dmacr = 0 := by
  cases h with
  | write off w r clk idle ror rt sse dma => exact dma hs
  | halt stop => rwa [State.halt_regs]
  | read | readFree | readPop | push | init | configure | transceive | release | async => exact hs

theorem drainStep_regs (s : State) : (drainStep s).regs = s.regs := by
  cases hrx : s.rxFifo with
  | nil => rw [drainStep_empty hrx]; rfl
  | cons e rest =>
    obtain ⟨m, h, -⟩ := drainStep_pop hrx
    rw [h]; rfl

theorem checkStep_regs (s : State) : (checkStep s).regs = s.regs := by
  unfold checkStep
  dsimp only
  (repeat' split) <;> rfl

theorem endCommand_regs (code : ResultCode) (s : State) : (endCommand code s).regs = s.regs := by
  unfold endCommand
  dsimp only
  split <;> rfl

theorem writeCr1Step_dmacr (s : State) : (writeCr1Step s).regs.dmacr = s.regs.dmacr := by
  unfold writeCr1Step
  split <;> rfl

/-- SEQ writes CR0, CR1 and CPSR only (42_config_cache.md R111 to R113, 45_controller_sequencer.md R145). -/
theorem seqStep_dmacr (s : State) : (seqStep s).regs.dmacr = s.regs.dmacr := by
  unfold seqStep
  cases s.seq.state with
  | idle | writeCr0 | writeCpsr | select | enable | deselect => rfl
  | waitBusy => dsimp only [waitBusyStep]; split <;> rfl
  | flush => dsimp only [flushStep]; split <;> rfl
  | check => exact congrArg Regs.dmacr (checkStep_regs s)
  | failed => exact congrArg Regs.dmacr (endCommand_regs _ s)
  | writeCr1 => exact writeCr1Step_dmacr s
  | fill => dsimp only [fillStep]; split <;> rfl
  | drain => exact congrArg Regs.dmacr (drainStep_regs s)
  | finish => exact congrArg Regs.dmacr (endCommand_regs _ s)

theorem acquireStep_regs (k : Nat) (s : State) : (acquireStep k s).regs = s.regs := by
  obtain ⟨cfg, tx, rx, -, -, -, h⟩ | ⟨-, -, h⟩ | h := acquireStep_cases k s <;> rw [h] <;> rfl

theorem relWaitStep_regs (k : Nat) (s : State) : (relWaitStep k s).regs = s.regs := by
  unfold relWaitStep
  (repeat' split) <;> rfl

theorem frameStartStep_regs (s : State) : (frameStartStep s).regs = s.regs := by
  unfold frameStartStep
  (repeat' split) <;> rfl

theorem memWriteStep_regs (a : Addr) (v : Byte) (s : State) : (memWriteStep a v s).regs = s.regs := by
  unfold memWriteStep
  split <;> rfl

theorem frameDoneStep_dmacr (miso : Byte) (s : State) : (frameDoneStep miso s).regs.dmacr = s.regs.dmacr := by
  unfold frameDoneStep receive
  dsimp only
  (repeat' split) <;> rfl

/-- No turn makes DMACR nonzero. -/
theorem TurnEffect.dmacr_eq_zero {u : Turn} {s t : State} (h : TurnEffect s u t) (hs : s.regs.dmacr = 0) :
    t.regs.dmacr = 0 := by
  cases h with
  | host r effect => exact effect.dmacr_eq_zero hs
  | client k c effect => exact effect.dmacr_eq_zero hs
  | relWait k => rwa [relWaitStep_regs]
  | acquire k => rwa [acquireStep_regs]
  | seq => rwa [seqStep_dmacr]
  | frameStart => rwa [frameStartStep_regs]
  | frameDone miso => rwa [frameDoneStep_dmacr]
  | timeoutSet => unfold timeoutSetStep; split <;> exact hs
  | timeoutClear => unfold timeoutClearStep; split <;> exact hs
  | memWrite a v => rwa [memWriteStep_regs]

/-- Settles O17: the write's own check is that of R96, and no turn writes anything but 0 to DMACR. -/
theorem dmaControlStaysZero : Obligations.DmaControlStaysZero := by
  refine ⟨fun s w => ⟨fun hclk hidle => ⟨fun hne => ?_, fun hzero => ?_⟩, fun hclk => ?_,
    busStops_of_encode (i := .rdDmacr) rfl s, busStops_of_encode (i := .wrDmacr w) rfl s⟩, fun s t hs hstep => ?_⟩
  · exact exec_write_of_own (own := dmaCheck w) rfl hclk hidle (if_pos hne)
  · rw [exec_write (i := .wrDmacr w) (b := 0x164) rfl hclk hidle (if_neg (not_not.2 hzero)), ← hzero]
    rfl
  · exact exec_read (b := 0x124) (f := State.readDmacr) rfl hclk (by decide)
  · exact step_keeps (Inv := fun s => s.regs.dmacr = 0) (fun _ _ h => h) (fun _ _ _ h heff => heff.dmacr_eq_zero h) hs
      hstep

end Sys2Proof.Machine
end

section
/-! RESOLVE against the legal pairs and the bound (spec/41_clock_resolver.md R99, R100, R106): what it answers is said once
(resolve_cases), as the first pair of the scan that satisfies the bound, or the fallback when no legal pair does. -/
namespace Sys2Proof.Machine

/-! ### The legal pairs and the bound -/

theorem legalPair_fallback : legalPair 254 255 := ⟨rfl, by decide, le_rfl, le_rfl⟩

/-- The legal pairs are the pairs that the two scans of R100 range over. -/
theorem legalPair_iff_scanned {a b : Nat} : legalPair a b ↔ (∃ i, i < 127 ∧ a = 2 + 2 * i) ∧ b < 256 := by
  unfold legalPair
  constructor
  · rintro ⟨heven, hlow, hhigh, hscr⟩
    exact ⟨⟨a / 2 - 1, by omega, by omega⟩, by omega⟩
  · rintro ⟨⟨i, hi, rfl⟩, hscr⟩
    exact ⟨by omega, by omega, by omega, by omega⟩

/-- Every other legal pair comes before the fallback in the scan. -/
theorem legalPair.before_fallback {a b : Nat} (h : legalPair a b) (hne : (a, b) ≠ (254, 255)) :
    a < 254 ∨ (a = 254 ∧ b < 255) := by
  obtain ⟨-, -, ha, hb⟩ := h
  rw [Ne, Prod.mk.injEq] at hne
  omega

theorem legalPair.divisor_pos {a b : Nat} (h : legalPair a b) : 0 < divisor a b := by
  obtain ⟨-, ha, -, -⟩ := h
  exact Nat.mul_pos (by omega) b.succ_pos

/-- The fallback has the greatest divisor of the legal pairs. -/
theorem legalPair.divisor_le {a b : Nat} (h : legalPair a b) : divisor a b ≤ divisor 254 255 := by
  obtain ⟨-, -, ha, hb⟩ := h
  exact Nat.mul_le_mul ha (Nat.succ_le_succ hb)

/-- The bound without its division. -/
theorem legalPair.meetsBound_iff {p f a b : Nat} (h : legalPair a b) : meetsBound p f a b ↔ p < divisor a b * (f + 1) := by
  rw [meetsBound, ← Nat.lt_succ_iff, Nat.div_lt_iff_lt_mul h.divisor_pos, Nat.mul_comm]

/-- Every legal pair fails the bound exactly when the fallback does, whose divisor is 65024. -/
theorem no_legalPair_meetsBound_iff {p f : Nat} :
    (∀ a b, legalPair a b → ¬ meetsBound p f a b) ↔ 65024 * (f + 1) ≤ p := by
  constructor
  · intro h
    exact not_lt.1 (mt legalPair_fallback.meetsBound_iff.2 (h 254 255 legalPair_fallback))
  · intro h a b hab hmeets
    have hlt : p < divisor a b * (f + 1) := hab.meetsBound_iff.1 hmeets
    exact absurd (hlt.trans_le (Nat.mul_le_mul_right _ hab.divisor_le)) (not_lt.2 h)

/-! ### What RESOLVE answers -/

/-- RESOLVE answers the first pair of the scan that satisfies the bound; or, when no legal pair does, the fallback. -/
theorem resolve_cases (p f : Nat) :
    (∃ a b, resolve p f = (a, b) ∧ legalPair a b ∧ meetsBound p f a b ∧
        ∀ c d, legalPair c d → c < a ∨ (c = a ∧ d < b) → ¬ meetsBound p f c d) ∨
      (resolve p f = (254, 255) ∧ ∀ a b, legalPair a b → ¬ meetsBound p f a b) := by
  have fails : ∀ {a b : Nat}, scanScr p f a 256 0 = none → b < 256 → ¬ meetsBound p f a b := fun hnone hb =>
    not_le.2 (scanScr_none hnone _ (Nat.zero_le _) (by omega))
  obtain ⟨i, b, hi, hres, hsome, hnone⟩ | ⟨hres, hnone⟩ := scanPrescaler_cases (p := p) (f := f) 127 2
  · obtain ⟨-, hb, hmeets, hfirst⟩ := scanScr_some hsome
    refine .inl ⟨2 + 2 * i, b, hres, legalPair_iff_scanned.2 ⟨⟨i, hi, rfl⟩, by omega⟩, hmeets, fun c d hcd hbefore => ?_⟩
    obtain ⟨⟨j, -, rfl⟩, hd⟩ := legalPair_iff_scanned.1 hcd
    obtain hlt | ⟨heq, hlt⟩ := hbefore
    · exact fails (hnone j (by omega)) hd
    · rw [heq]
      exact not_le.2 (hfirst d d.zero_le hlt)
  · refine .inr ⟨hres, fun a b hab => ?_⟩
    obtain ⟨⟨j, hj, rfl⟩, hb⟩ := legalPair_iff_scanned.1 hab
    exact fails (hnone j hj) hb

theorem legalPair_resolve (p f : Nat) : legalPair (resolve p f).1 (resolve p f).2 := by
  obtain ⟨a, b, hres, hlegal, -, -⟩ | ⟨hres, -⟩ := resolve_cases p f
  · rwa [hres]
  · rw [hres]
    exact legalPair_fallback

theorem not_meetsBound_resolve_iff {p f : Nat} :
    ¬ meetsBound p f (resolve p f).1 (resolve p f).2 ↔ ∀ a b, legalPair a b → ¬ meetsBound p f a b := by
  refine ⟨fun hfails => ?_, fun hnone => hnone _ _ (legalPair_resolve p f)⟩
  obtain ⟨a, b, hres, -, hmeets, -⟩ | ⟨-, hnone⟩ := resolve_cases p f
  · rw [hres] at hfails
    exact absurd hmeets hfails
  · exact hnone

theorem resolve_eq_fallback_of_none {p f : Nat} (h : ∀ a b, legalPair a b → ¬ meetsBound p f a b) :
    resolve p f = (254, 255) := by
  obtain ⟨a, b, -, hlegal, hmeets, -⟩ | ⟨hres, -⟩ := resolve_cases p f
  · exact absurd hmeets (h a b hlegal)
  · exact hres

/-- The fallback pair is also the answer when it is the only legal pair that satisfies the bound. -/
theorem resolve_eq_fallback_iff {p f : Nat} :
    resolve p f = (254, 255) ↔ ∀ a b, legalPair a b → (a, b) ≠ (254, 255) → ¬ meetsBound p f a b := by
  obtain ⟨a, b, hres, hlegal, hmeets, hfirst⟩ | ⟨hres, hnone⟩ := resolve_cases p f
  · rw [hres]
    constructor
    · intro heq c d hcd hne
      cases heq
      exact hfirst c d hcd (hcd.before_fallback hne)
    · intro hother
      by_contra hne
      exact hother a b hlegal hne hmeets
  · exact iff_of_true hres fun a b hab _ => hnone a b hab

/-- Settles O38: the two cases of what RESOLVE answers. -/
theorem resolverReturnsFirstPair : Obligations.ResolverReturnsFirstPair := by
  intro p f
  refine ⟨legalPair_resolve p f, fun ⟨a, b, hab, hmeets⟩ => ?_, resolve_eq_fallback_of_none⟩
  obtain ⟨c, d, hres, -, hcd, hfirst⟩ | ⟨-, hnone⟩ := resolve_cases p f
  · rw [hres]
    exact ⟨hcd, hfirst⟩
  · exact absurd hmeets (hnone a b hab)

/-- Settles O41: the result fails the bound only when every legal pair does, the fallback has the greatest divisor, and
the fallback comes last in the scan. -/
theorem resolverFallbackCondition : Obligations.ResolverFallbackCondition := fun _ _ =>
  ⟨not_meetsBound_resolve_iff.trans no_legalPair_meetsBound_iff, no_legalPair_meetsBound_iff,
    fun h => resolve_eq_fallback_of_none (no_legalPair_meetsBound_iff.2 h), resolve_eq_fallback_iff⟩

end Sys2Proof.Machine
end

section
/-! SEQ's configuration steps (spec/42_config_cache.md R108 to R113): what CHECK does in each of its three cases, the
candidate image as numbers, and the order of the three image writes. -/
namespace Sys2Proof.Machine

/-! ### The candidate image -/

/-- A concatenation as a number: the first part above the second. -/
theorem toNat_append_eq_add {m n : Nat} (x : BitVec m) (y : BitVec n) :
    (x ++ y).toNat = x.toNat * 2 ^ n + y.toNat := by
  rw [BitVec.toNat_append, ← Nat.shiftLeft_add_eq_or_of_lt y.isLt, Nat.shiftLeft_eq]

theorem candidate_cr0_toNat (p : BitVec 32) (cfg : CfgWord) :
    (candidate p cfg).cr0.toNat =
      (resolve p.toNat (cfgFreq cfg).toNat).2 * 256 + (cfgCpha cfg).toNat * 128 + (cfgCpol cfg).toNat * 64 + 7 := by
  obtain ⟨-, -, -, hscr⟩ := legalPair_resolve p.toNat (cfgFreq cfg).toNat
  have hcpha := (cfgCpha cfg).toNat_le
  have hcpol := (cfgCpol cfg).toNat_le
  simp only [candidate, BitVec.toNat_setWidth, toNat_append_eq_add, BitVec.toNat_ofNat, BitVec.toNat_ofBool]
  omega

theorem candidate_cr1_toNat (p : BitVec 32) (cfg : CfgWord) :
    (candidate p cfg).cr1.toNat = (cfgLoop cfg).toNat := by
  have hloop := (cfgLoop cfg).toNat_le
  simp only [candidate, BitVec.toNat_setWidth, toNat_append_eq_add, BitVec.toNat_ofNat, BitVec.toNat_ofBool]
  omega

theorem candidate_cpsr_toNat (p : BitVec 32) (cfg : CfgWord) :
    (candidate p cfg).cpsr.toNat = (resolve p.toNat (cfgFreq cfg).toNat).1 := by
  obtain ⟨-, -, hpre, -⟩ := legalPair_resolve p.toNat (cfgFreq cfg).toNat
  simp only [candidate, BitVec.toNat_setWidth, BitVec.toNat_ofNat]
  omega

/-! ### The CHECK step -/

theorem cfgRejected_iff {cfg : CfgWord} : cfgRejected cfg = true ↔ cfgSlave cfg = true ∨ cfgWs cfg ≠ 8 := by
  simp [cfgRejected]

section
variable {s : State}

theorem checkStep_of_rejected (h : cfgSlave s.seq.cfg = true ∨ cfgWs s.seq.cfg ≠ 8) :
    checkStep s = s.goto .failed :=
  if_pos (cfgRejected_iff.2 h)

/-- A configuration that is not rejected is compared with the cached image by its candidate (R109, R110). -/
theorem checkStep_of_accepted (hslave : cfgSlave s.seq.cfg = false) (hws : cfgWs s.seq.cfg = 8) :
    checkStep s =
      (s.setSeq { s.seq with cand := candidate s.par.pClkHz s.seq.cfg }).goto
        (if s.cache.valid = true ∧ s.cache.image = candidate s.par.pClkHz s.seq.cfg then afterConfig s.seq.op
          else .writeCr0) := by
  have haccept : ¬ cfgRejected s.seq.cfg = true := by simp [cfgRejected_iff, hslave, hws]
  rw [checkStep, if_neg haccept]
  dsimp only
  split <;> rfl

end

theorem afterConfig_eq (op : SeqOp) : afterConfig op = if op = .transceive then .select else .finish := by
  cases op <;> rfl

/-! ### The steps as turns -/

section
variable {s : State}

theorem runTurn_seq_of_check (h : s.seq.state = .check) : runTurn .seq s = .next (checkStep s) := by
  simp only [runTurn, seqStep, h]

theorem runTurn_seq_of_writeCr0 (h : s.seq.state = .writeCr0) : runTurn .seq s = .next (writeCr0Step s) := by
  simp only [runTurn, seqStep, h]

theorem runTurn_seq_of_writeCr1 (h : s.seq.state = .writeCr1) : runTurn .seq s = .next (writeCr1Step s) := by
  simp only [runTurn, seqStep, h]

theorem runTurn_seq_of_writeCpsr (h : s.seq.state = .writeCpsr) : runTurn .seq s = .next (writeCpsrStep s) := by
  simp only [runTurn, seqStep, h]

/-- From CHECK to ENABLE nothing of a TRANSCEIVE is in flight; here for the state in which CR1 is written (R112). -/
theorem State.pumpAccounted.drained_of_writeCr1 (h : s.pumpAccounted) (hop : s.seq.op = .transceive)
    (hstate : s.seq.state = .writeCr1) : s.drained := by
  have hacc := h hop
  rw [hstate] at hacc
  exact hacc.2

end

/-- Settles O27: CHECK rejects, or compares the candidate, whose three words are sums of the fields that R109 lists. -/
theorem checkRejectsOrCompares : Obligations.CheckRejectsOrCompares := by
  refine ⟨fun s hcheck => ?_, fun p cfg =>
    ⟨candidate_cr0_toNat p cfg, candidate_cr1_toNat p cfg, candidate_cpsr_toNat p cfg⟩⟩
  rw [runTurn_seq_of_check hcheck]
  refine ⟨fun hreject => ?_, fun hslave hws => ?_⟩
  · rw [checkStep_of_rejected hreject]; rfl
  · rw [checkStep_of_accepted hslave hws]
    refine ⟨fun hhit => ⟨fun hop => ?_, fun hop => ?_⟩, fun hmiss => ?_⟩
    · rw [if_pos hhit, hop]; rfl
    · rw [if_pos hhit, hop]; rfl
    · rw [if_neg hmiss]; rfl

/-- Settles O28: each write is SEQ's step in its own state, and R112's inference is the accounting of the pump there. -/
theorem imageWrittenInOrder : Obligations.ImageWrittenInOrder := by
  intro s
  refine ⟨fun hcr0 => ?_, fun hcr1 => ?_, fun hcpsr _ => ?_, fun hacc hop hcr1 => ?_⟩
  · rw [runTurn_seq_of_writeCr0 hcr0]; rfl
  · rw [runTurn_seq_of_writeCr1 hcr1]
    exact ⟨fun hframe => congrArg _ (if_pos hframe), fun hquiet => congrArg _ (if_neg hquiet)⟩
  · rw [runTurn_seq_of_writeCpsr hcpsr, writeCpsrStep, afterConfig_eq]; rfl
  · obtain ⟨-, -, hidle⟩ := hacc.drained_of_writeCr1 hop hcr1
    exact hidle

end Sys2Proof.Machine
end

section
/-! Buffer sets and the two steps that begin a transfer (spec/43_transfer_context.md R118, R123 to R125,
spec/45_controller_sequencer.md R148): the address and the transmit byte of a unit, a command that gets past the checks of
R71, and the acquire step case by case. -/
namespace Sys2Proof.Machine

/-! ### Addresses and transmit bytes -/

/-- A byte that lies in the first descriptor of a list. -/
theorem descsAddr_cons_of_lt {d : Desc} {i : Nat} (h : i < d.len.toNat) (ds : List Desc) :
    descsAddr (d :: ds) i = some (d.addr + BitVec.ofNat 32 i) := if_pos h

theorem descsAddr_eq_none_iff (ds : List Desc) (i : Nat) : descsAddr ds i = none ↔ descsLen ds ≤ i := by
  rw [← Option.not_isSome_iff_eq_none, descsAddr_isSome_iff, Nat.not_lt]

theorem bufAddr_eq_none_iff (set : BufSet) (i : Nat) : bufAddr set i = none ↔ bufLen set ≤ i := by
  cases set with
  | none => simp [bufAddr, bufLen]
  | some ds => exact descsAddr_eq_none_iff ds i

theorem descsLen_eq_sum (ds : List Desc) : descsLen ds = (ds.map fun d => d.len.toNat).sum := by
  induction ds with
  | nil => rfl
  | cons d ds ih => rw [descsLen, ih, List.map_cons, List.sum_cons]

/-- Settles O34: the descriptors before the byte's own are passed over by their lengths, and a byte has an address exactly
when it lies within the set. -/
theorem bufferByteAddress : Obligations.BufferByteAddress := by
  refine ⟨fun before after d i hlo hhi => ?_, fun ds i hi => ?_, fun set i => (bufAddr_eq_none_iff set i).mpr, rfl,
    descsLen_eq_sum⟩
  · have hlt : i - descsLen before < d.len.toNat := by omega
    exact (descsAddr_append_right before _ hlo).trans (descsAddr_cons_of_lt hlt after)
  · rw [Ne, bufAddr_eq_none_iff]
    omega

theorem txByte_of_addr {s : State} {i : BitVec 32} {a : Addr} (hi : i < s.seq.txLen)
    (ha : bufAddr s.seq.tx i.toNat = some a) : txByte s i = s.memRead a := by
  simp only [txByte, hi, if_true, ha]

theorem txByte_of_past_end {s : State} {i : BitVec 32} (hi : s.seq.txLen ≤ i) : txByte s i = dummyByte :=
  if_neg (BitVec.not_lt.mpr hi)

/-- An ABSENT transmit set has no byte, whatever length is recorded for it. -/
theorem txByte_of_absent {s : State} (h : s.seq.tx = none) (i : BitVec 32) : txByte s i = dummyByte := by
  simp only [txByte, h, bufAddr, ite_self]

/-- Settles O33: the two cases of TXBYTE, by whether the unit has an address in the transmit set. -/
theorem transmitByteOrDummy : Obligations.TransmitByteOrDummy := fun _ i =>
  ⟨fun _ => txByte_of_addr, fun h => h.elim txByte_of_past_end (txByte_of_absent · i)⟩

/-! ### Issuing a command -/

section
variable {op : BitVec 4} {k : Nat} {cfg : Option CfgWord} {s : State}

/-- A command that the checks of R71 let through and whose own check stops it. -/
theorem command_of_own {stop : Stop} (hk : k < s.nClients) (hguard : cmdGuard op k cfg s = none)
    (issue : State → State) : command op k cfg (some stop) issue s = .next (s.halt stop) := by
  simp only [command, hk, if_true, hguard]

/-- A command that every check lets through takes its issue step. -/
theorem command_of_issue (hk : k < s.nClients) (hguard : cmdGuard op k cfg s = none) (issue : State → State) :
    command op k cfg none issue s = .next (issue s) := by
  simp only [command, hk, if_true, hguard]

end

theorem cmdGuard_of_clear {k : Nat} {c : CfgWord} {s : State} (op : BitVec 4) (hclk : s.clk = true)
    (hfree : (s.slot k).pending = false) (hres : cfgReserved c = 0) : cmdGuard op k (some c) s = none :=
  (cmdGuard_none_iff op k (some c) s).mpr ⟨.inl hclk, hfree, fun _ h => Option.some.inj h ▸ hres⟩

/-- Settles O22: past the checks of R71 the command's own check is the one of the lengths. -/
theorem transceiveWaitsForLock : Obligations.TransceiveWaitsForLock := by
  intro k cfg tx rx s hk
  refine ⟨fun hclk hfree hres => ?_, commandStops_transceive hk⟩
  have hguard := cmdGuard_of_clear 2 hclk hfree hres
  refine ⟨fun hfit => ?_, fun hlong => ?_⟩
  · have hown : lengthCheck tx rx = none := if_neg (by omega)
    rw [exec, execTransceive, hown]
    exact command_of_issue hk hguard _
  · have hown : lengthCheck tx rx = some (.refusal .bufferLength) := if_pos hlong
    rw [exec, execTransceive, hown]
    exact command_of_own hk hguard _

/-! ### The acquire step -/

/-- N = max(txLen, rxLen), which the model takes on the stored lengths, is exact for lengths that fit LEN_BITS (R118). -/
theorem ofNat_max_eq_ite {m n : Nat} (hm : m < 2 ^ 32) (hn : n < 2 ^ 32) :
    BitVec.ofNat 32 (max m n) =
      if BitVec.ofNat 32 m ≤ BitVec.ofNat 32 n then BitVec.ofNat 32 n else BitVec.ofNat 32 m := by
  simp only [BitVec.le_def, BitVec.toNat_ofNat, Nat.mod_eq_of_lt hm, Nat.mod_eq_of_lt hn, max_def]
  split <;> rfl

section
variable {k : Nat} {s : State} {cfg : CfgWord} {tx rx : BufSet}

theorem acquireStep_of_idle (hlock : s.lock = .free) (hslot : s.slot k = .waitLock cfg tx rx) (hidle : s.seq.op = .none) :
    acquireStep k s = startTransfer s k cfg tx rx := by
  simp only [acquireStep, hlock, hslot, hidle, if_true]

theorem acquireStep_of_busy (hlock : s.lock = .free) (hslot : s.slot k = .waitLock cfg tx rx) (hbusy : s.seq.op ≠ .none) :
    acquireStep k s = s.halt (.fault (.concurrentTransfer k)) := by
  simp only [acquireStep, hlock, hslot, hbusy, if_false]

theorem acquireStep_of_not_enabled (h : s.lock ≠ .free ∨ ∀ cfg tx rx, s.slot k ≠ .waitLock cfg tx rx) :
    acquireStep k s = s := by
  unfold acquireStep
  split
  · rename_i hlock hslot
    exact h.elim (absurd hlock) (absurd hslot <| · _ _ _)
  · rfl

end

/-- Settles O25: the three cases of the acquire step. -/
theorem acquireSetsUpTransfer : Obligations.AcquireSetsUpTransfer := by
  refine fun k s => ⟨fun cfg tx rx hlock hslot => ⟨fun hidle htx hrx => ?_, fun hbusy => ?_⟩, fun h => ?_⟩
  · rw [runTurn, acquireStep_of_idle hlock hslot hidle, ofNat_max_eq_ite htx hrx]
    rfl
  · rw [runTurn, acquireStep_of_busy hlock hslot hbusy]
    rfl
  · rw [runTurn, acquireStep_of_not_enabled h]

end Sys2Proof.Machine
end

section
/-! Who writes the transfer context (spec/43_transfer_context.md): what one turn can do to the lock, chip select, the command
slots and the part of SEQ that says which command runs is said once (ContextEffect). That only SELECT and DESELECT drive
chip select, and that a lock which is waited for is taken, are read off from it. -/
namespace Sys2Proof.Machine

/-! ### The frame -/

/-- `t` has the lock, chip select and slots of `s`, SEQ runs the same command there, and is idle in both or in neither. -/
structure ContextFrame (s t : State) : Prop where
  lock : t.lock = s.lock
  cs : t.cs = s.cs
  slots : t.slots = s.slots
  op : t.seq.op = s.seq.op
  client : t.seq.client = s.seq.client
  idle : t.seq.state = .idle ↔ s.seq.state = .idle

/-- The frame by fields, for the simp set of the setters. -/
@[simp] theorem contextFrame_iff {s t : State} :
    ContextFrame s t ↔ t.lock = s.lock ∧ t.cs = s.cs ∧ t.slots = s.slots ∧ t.seq.op = s.seq.op ∧
      t.seq.client = s.seq.client ∧ (t.seq.state = .idle ↔ s.seq.state = .idle) :=
  ⟨fun ⟨h1, h2, h3, h4, h5, h6⟩ => ⟨h1, h2, h3, h4, h5, h6⟩,
    fun ⟨h1, h2, h3, h4, h5, h6⟩ => ⟨h1, h2, h3, h4, h5, h6⟩⟩

theorem ContextFrame.refl (s : State) : ContextFrame s s := by simp

theorem contextFrame_halt (s : State) (stop : Stop) : ContextFrame s (s.halt stop) := by
  cases stop <;> simp

/-! ### Everything a turn can write -/

/-- The writes to the context, each by the turn that makes it. -/
inductive ContextEffect (s : State) : Turn → State → Prop where
  /-- Nothing of the context was written. -/
  | none (u : Turn) {t : State} (frame : ContextFrame s t) : ContextEffect s u t
  /-- A command was issued or answered: a slot that held none that waits or runs was written (R117). -/
  | slot (u : Turn) (j : Nat) (v : Slot) {t : State} (free : ¬ s.waits j ∧ s.slot j ≠ .running)
      (frame : ContextFrame (s.setSlot j v) t) : ContextEffect s u t
  /-- INIT or the REL_WAIT step of a RELEASE freed the lock and answered (R119, 45_controller_sequencer.md R150, R151). -/
  | freeLock (u : Turn) (j : Nat) {t : State} (free : ¬ s.waits j ∧ s.slot j ≠ .running)
      (frame : ContextFrame (s.freeLock.setSlot j (.done .ok)) t) : ContextEffect s u t
  /-- CONFIGURE started (42_config_cache.md R115). -/
  | configure (u : Turn) (j : Nat) (cfg : CfgWord) (client : j < s.nClients)
      (free : ¬ s.waits j ∧ s.slot j ≠ .running) (idle : s.seq.op = .none) : ContextEffect s u (issueConfigure j cfg s)
  /-- TRANSCEIVE started (R118). -/
  | acquire (j : Nat) (cfg : CfgWord) (tx rx : BufSet) (lock : s.lock = .free) (slot : s.slot j = .waitLock cfg tx rx)
      (idle : s.seq.op = .none) : ContextEffect s (.acquire j) (startTransfer s j cfg tx rx)
  /-- Chip select was asserted (R121). -/
  | select (state : s.seq.state = .select) : ContextEffect s .seq (selectStep s)
  /-- Chip select was deasserted (R122). -/
  | deselect (state : s.seq.state = .deselect) : ContextEffect s .seq (deselectStep s)
  /-- SEQ's command ended (45_controller_sequencer.md R143, R147). -/
  | finish (code : ResultCode) (state : s.seq.state ≠ .idle) : ContextEffect s .seq (endCommand code s)

/-! ### Requests and the client's poll -/

/-- A client with no command pending neither waits for the lock nor runs. -/
theorem State.free_of_not_pending {s : State} {j : Nat} (h : (s.slot j).pending = false) :
    ¬ s.waits j ∧ s.slot j ≠ .running := by
  constructor
  · rintro ⟨cfg, tx, rx, hj⟩
    simp [hj, Slot.pending] at h
  · intro hj
    simp [hj, Slot.pending] at h

/-- A request writes the context only when it is a command's issue. -/
theorem ExecEffect.contextEffect {s t : State} (h : ExecEffect s t) (u : Turn) : ContextEffect s u t := by
  cases h with
  | halt stop => exact .none u (contextFrame_halt s stop)
  | read | readFree | readPop | write | push => exact .none u (by simp)
  | init j _ hfree => exact .freeLock u j (State.free_of_not_pending hfree) (by simp [issueInit])
  | configure j cfg hj hfree _ hidle => exact .configure u j cfg hj (State.free_of_not_pending hfree) hidle
  | transceive j cfg tx rx _ hfree =>
    exact .slot u j (.waitLock cfg tx rx) (State.free_of_not_pending hfree) (.refl _)
  | release j _ hfree => exact .slot u j .relWait (State.free_of_not_pending hfree) (.refl _)
  | async j _ hfree => exact .slot u j (.done .notSupported) (State.free_of_not_pending hfree) (by simp)

theorem relWaitStep_contextEffect (j : Nat) (s : State) (u : Turn) : ContextEffect s u (relWaitStep j s) := by
  unfold relWaitStep
  split
  · rename_i hslot
    split
    · exact .none u (.refl s)
    · exact .freeLock u j (by simp [State.waits, hslot]) (by simp)
  · exact .none u (.refl s)

theorem acquireStep_contextEffect (j : Nat) (s : State) : ContextEffect s (.acquire j) (acquireStep j s) := by
  obtain ⟨cfg, tx, rx, hlock, hslot, hidle, h⟩ | ⟨-, -, h⟩ | h := acquireStep_cases j s
  · rw [h]; exact .acquire j cfg tx rx hlock hslot hidle
  · rw [h]; exact .none _ (contextFrame_halt s _)
  · rw [h]; exact .none _ (.refl s)

/-! ### The sequencer -/

theorem afterConfig_ne_idle (op : SeqOp) : afterConfig op ≠ .idle := by
  cases op <;> decide

section
variable {s : State}

theorem waitBusyStep_contextFrame (h : s.seq.state = .waitBusy) : ContextFrame s (waitBusyStep s) := by
  unfold waitBusyStep
  split <;> simp [h]

theorem flushStep_contextFrame (h : s.seq.state = .flush) : ContextFrame s (flushStep s) := by
  unfold flushStep
  split <;> simp [h]

theorem checkStep_contextFrame (h : s.seq.state = .check) : ContextFrame s (checkStep s) := by
  unfold checkStep
  split
  · simp [h]
  · dsimp only
    split <;> simp [h, afterConfig_ne_idle]

theorem writeCr1Step_contextFrame (h : s.seq.state = .writeCr1) : ContextFrame s (writeCr1Step s) := by
  unfold writeCr1Step
  split
  · exact contextFrame_halt s _
  · simp [h]

theorem fillStep_contextFrame (h : s.seq.state = .fill) : ContextFrame s (fillStep s) := by
  unfold fillStep pushUnit
  split <;> simp [h]

theorem drainStep_contextFrame (h : s.seq.state = .drain) : ContextFrame s (drainStep s) := by
  cases hrx : s.rxFifo with
  | nil =>
    rw [drainStep_empty hrx]
    split <;> simp [h]
  | cons e rest =>
    obtain ⟨m, hpop, -⟩ := drainStep_pop hrx
    rw [hpop]
    simp

end

/-- Of SEQ's state steps SELECT, DESELECT and the two that end a command write the context. -/
theorem seqStep_contextEffect (s : State) : ContextEffect s .seq (seqStep s) := by
  unfold seqStep
  cases h : s.seq.state with
  | idle => exact .none _ (.refl s)
  | waitBusy => exact .none _ (waitBusyStep_contextFrame h)
  | flush => exact .none _ (flushStep_contextFrame h)
  | check => exact .none _ (checkStep_contextFrame h)
  | failed => exact .finish .unsupportedConfig (by simp [h])
  | writeCr0 => exact .none _ (by simp [writeCr0Step, h])
  | writeCr1 => exact .none _ (writeCr1Step_contextFrame h)
  | writeCpsr => exact .none _ (by simp [writeCpsrStep, h, afterConfig_ne_idle])
  | select => exact .select h
  | enable => exact .none _ (by simp [enableStep, h])
  | fill => exact .none _ (fillStep_contextFrame h)
  | drain => exact .none _ (drainStep_contextFrame h)
  | deselect => exact .deselect h
  | finish => exact .finish .ok (by simp [h])

/-! ### The serial engine and the owner of system memory -/

theorem frameStartStep_contextFrame (s : State) : ContextFrame s (frameStartStep s) := by
  unfold frameStartStep
  split
  · exact .refl s
  · split
    · split
      · exact contextFrame_halt s _
      · simp
    · exact .refl s

theorem frameDoneStep_contextFrame (miso : Byte) (s : State) : ContextFrame s (frameDoneStep miso s) := by
  unfold frameDoneStep receive
  dsimp only
  split
  · split <;> simp
  · exact .refl s

theorem timeoutSetStep_contextFrame (s : State) : ContextFrame s (timeoutSetStep s) := by
  unfold timeoutSetStep
  split <;> simp

theorem timeoutClearStep_contextFrame (s : State) : ContextFrame s (timeoutClearStep s) := by
  unfold timeoutClearStep
  split <;> simp

theorem memWriteStep_contextFrame (a : Addr) (v : Byte) (s : State) : ContextFrame s (memWriteStep a v s) := by
  unfold memWriteStep
  split <;> simp

/-- Every turn makes one of the named writes to the context, or none. -/
theorem runTurn_contextEffect {u : Turn} {s t : State} (h : runTurn u s = .next t) : ContextEffect s u t := by
  cases runTurn_effect h with
  | host r effect => exact effect.contextEffect _
  | client k c effect => exact effect.contextEffect _
  | relWait k => exact relWaitStep_contextEffect k s _
  | acquire k => exact acquireStep_contextEffect k s
  | seq => exact seqStep_contextEffect s
  | frameStart => exact .none _ (frameStartStep_contextFrame s)
  | frameDone miso => exact .none _ (frameDoneStep_contextFrame miso s)
  | timeoutSet => exact .none _ (timeoutSetStep_contextFrame s)
  | timeoutClear => exact .none _ (timeoutClearStep_contextFrame s)
  | memWrite a v => exact .none _ (memWriteStep_contextFrame a v s)

/-! ### Chip select -/

theorem endCommand_cs (code : ResultCode) (s : State) : (endCommand code s).cs = s.cs := by
  unfold endCommand
  dsimp only
  split <;> rfl

/-- Chip select is as it was, or the turn was a SELECT or a DESELECT step. -/
theorem ContextEffect.cs_cases {s t : State} {u : Turn} (h : ContextEffect s u t) :
    t.cs = s.cs ∨
      (u = .seq ∧
        ((s.seq.state = .select ∧ t.cs = true ∧ t.trace = s.trace ++ [.cs true]) ∨
          (s.seq.state = .deselect ∧ t.cs = false ∧ t.trace = s.trace ++ [.cs false]))) := by
  cases h with
  | none _ frame | slot _ _ _ _ frame | freeLock _ _ _ frame => exact .inl frame.cs
  | configure | acquire => exact .inl rfl
  | finish code => exact .inl (endCommand_cs code s)
  | select hstate => exact .inr ⟨rfl, .inl ⟨hstate, rfl, rfl⟩⟩
  | deselect hstate => exact .inr ⟨rfl, .inr ⟨hstate, rfl, rfl⟩⟩

/-- Neither a CONFIGURE nor an idle SEQ is ever in SELECT or DESELECT. -/
theorem State.seqConsistent.op_of_select_or_deselect {s : State} (h : s.seqConsistent)
    (hstate : s.seq.state = .select ∨ s.seq.state = .deselect) : s.seq.op = .transceive := by
  obtain ⟨hidle, hconfigure, -⟩ := h
  cases hop : s.seq.op with
  | none => rcases hstate with hs | hs <;> simp [hop, hs] at hidle
  | configure => rcases hstate with hs | hs <;> simp [hop, hs] at hconfigure
  | transceive => rfl

/-- Settles O54: the writes to chip select among those a step can make; in both states SEQ runs a TRANSCEIVE. -/
theorem chipSelectWriters : Obligations.ChipSelectWriters := by
  intro s t hcons hstep hne
  obtain ⟨-, -, hrun⟩ := step_next hstep
  obtain ⟨e, he⟩ := turnTaken_env s
  rw [he] at hrun
  obtain ⟨hturn, hcs⟩ := (runTurn_contextEffect hrun).cs_cases.resolve_left hne
  exact ⟨hturn, hcons.op_of_select_or_deselect (hcs.imp And.left And.left), hcs⟩

/-! ### A lock that is waited for -/

theorem State.slot_setSlot_of_ne (s : State) {j k : Nat} (h : j ≠ k) (v : Slot) : (s.setSlot j v).slot k = s.slot k := by
  simp only [State.slot, State.setSlot, State.setSlots_slots, List.getElem?_set_ne h]

theorem State.slot_setSlot_self {s : State} {j : Nat} (h : j < s.nClients) (v : Slot) : (s.setSlot j v).slot j = v :=
  (State.slot_setSlots_set s h j v).trans (if_pos rfl)

/-- Client `k` waits for the FREE lock, and the slot of the client whose command SEQ runs, if it runs one, is RUNNING. -/
structure State.lockAwaited (s : State) (k : Nat) : Prop where
  lock : s.lock = .free
  waits : s.waits k
  idle : s.seq.op = .none → s.seq.state = .idle
  running : s.seq.op ≠ .none → s.slot s.seq.client = .running

/-- A client holds the lock and its TRANSCEIVE runs. -/
def State.lockTaken (s : State) : Prop := ∃ j, s.lock = .held j ∧ s.slot j = .running

theorem startTransfer_lockTaken (s : State) {j : Nat} {cfg : CfgWord} {tx rx : BufSet}
    (h : s.slot j = .waitLock cfg tx rx) : (startTransfer s j cfg tx rx).lockTaken :=
  have hj : j < s.nClients := s.slot_client (by simp [h])
  ⟨j, rfl, State.slot_setSlot_self (s := (s.setLock (.held j)).setSeq _) hj .running⟩

namespace State.lockAwaited
variable {s t : State} {j k : Nat}

theorem of_frame (h : s.lockAwaited k) (hf : ContextFrame s t) : t.lockAwaited k := by
  have hslot : t.slot = s.slot := funext fun i => by simp only [State.slot, hf.slots]
  refine ⟨hf.lock.trans h.lock, ?_, fun hop => ?_, fun hop => ?_⟩
  · simpa only [State.waits, hslot] using h.waits
  · exact hf.idle.mpr (h.idle (hf.op ▸ hop))
  · rw [hslot, hf.client]
    exact h.running (hf.op ▸ hop)

theorem waits_setSlot (h : s.lockAwaited k) (hwaits : ¬ s.waits j) (v : Slot) : (s.setSlot j v).waits k := by
  have hne : j ≠ k := fun hjk => hwaits (hjk ▸ h.waits)
  simpa only [State.waits, s.slot_setSlot_of_ne hne] using h.waits

/-- Writing a slot whose client neither waits nor runs. -/
theorem setSlot (h : s.lockAwaited k) (hfree : ¬ s.waits j ∧ s.slot j ≠ .running) (v : Slot) :
    (s.setSlot j v).lockAwaited k := by
  obtain ⟨hwaits, hruns⟩ := hfree
  refine ⟨h.lock, h.waits_setSlot hwaits v, h.idle, fun hop => ?_⟩
  have hrun : s.slot s.seq.client = .running := h.running hop
  have hne : j ≠ s.seq.client := fun hj => hruns (hj ▸ hrun)
  exact (s.slot_setSlot_of_ne hne v).trans hrun

theorem freeLock (h : s.lockAwaited k) : s.freeLock.lockAwaited k := ⟨rfl, h.waits, h.idle, h.running⟩

theorem driveCs (h : s.lockAwaited k) (level : Bool) : (s.driveCs level).lockAwaited k :=
  ⟨h.lock, h.waits, h.idle, h.running⟩

theorem after_issueConfigure (h : s.lockAwaited k) (hj : j < s.nClients) (hwaits : ¬ s.waits j) (cfg : CfgWord) :
    (issueConfigure j cfg s).lockAwaited k :=
  ⟨h.lock, h.waits_setSlot hwaits .running, nofun, fun _ => s.slot_setSlot_self hj .running⟩

/-- The command that ends is not that of client `k`, whose slot is not RUNNING. -/
theorem after_endCommand (h : s.lockAwaited k) (hstate : s.seq.state ≠ .idle) (code : ResultCode) :
    (endCommand code s).lockAwaited k := by
  have hrun : s.slot s.seq.client = .running := h.running (mt h.idle hstate)
  have hwaits : ¬ s.waits s.seq.client := by simp [State.waits, hrun]
  have hwaits' := h.waits_setSlot hwaits (.done code)
  unfold endCommand
  dsimp only
  split
  · exact ⟨rfl, hwaits', fun _ => rfl, fun hop => absurd rfl hop⟩
  · exact ⟨h.lock, hwaits', fun _ => rfl, fun hop => absurd rfl hop⟩

/-- No turn but the acquire step takes the lock, and none makes client `k` stop waiting. -/
theorem of_contextEffect {u : Turn} (h : s.lockAwaited k) (he : ContextEffect s u t) :
    t.lockAwaited k ∨ t.lockTaken := by
  cases he with
  | none _ frame => exact .inl (h.of_frame frame)
  | slot _ j v hfree frame => exact .inl ((h.setSlot hfree v).of_frame frame)
  | freeLock _ j hfree frame => exact .inl ((h.freeLock.setSlot hfree (.done .ok)).of_frame frame)
  | configure _ j cfg hj hfree => exact .inl (h.after_issueConfigure hj hfree.1 cfg)
  | acquire j cfg tx rx _ hslot => exact .inr (startTransfer_lockTaken s hslot)
  | select hstate => exact .inl ((h.driveCs true).of_frame (by simp [selectStep, hstate]))
  | deselect hstate => exact .inl ((h.driveCs false).of_frame (by simp [deselectStep, hstate]))
  | finish code hstate => exact .inl (h.after_endCommand hstate code)

end State.lockAwaited

/-- The acquire step of a waiting client takes a FREE lock, or is the last step of its run. -/
theorem lockTaken_of_acquire {s t : State} {j : Nat} (hlock : s.lock = .free) (hwaits : s.waits j)
    (hstep : runTurn (.acquire j) s = .next t) (hrunning : t.running) : t.lockTaken := by
  obtain ⟨cfg, tx, rx, hslot⟩ := hwaits
  cases hstep
  by_cases hidle : s.seq.op = .none
  · rw [acquireStep_of_idle hlock hslot hidle]
    exact startTransfer_lockTaken s hslot
  · rw [acquireStep_of_busy hlock hslot hidle] at hrunning
    exact absurd hrunning.1 (by simp)

section
variable {turn : Nat → Turn} {state : Nat → State}

/-- No state of a run has stopped, since each has a next one. -/
theorem IsRun.running (h : IsRun turn state) (n : Nat) : (state n).running :=
  have ⟨hfault, hrefused, _⟩ := step_given (h n)
  ⟨hfault, hrefused⟩

theorem IsRun.runTurn_eq (h : IsRun turn state) (n : Nat) : runTurn (turn n) (state n) = .next (state (n + 1)) :=
  (step_given (h n)).2.2

/-- While nobody takes it, a FREE lock stays FREE and client `k` goes on waiting for it. -/
theorem IsRun.lockAwaited_of_not_taken (h : IsRun turn state) {n k : Nat} (hn : (state n).lockAwaited k)
    (hnever : ∀ m, n < m → ¬ (state m).lockTaken) {m : Nat} (hm : n ≤ m) : (state m).lockAwaited k := by
  induction m, hm using Nat.le_induction with
  | base => exact hn
  | succ m hm ih =>
    exact (ih.of_contextEffect (runTurn_contextEffect (h.runTurn_eq m))).resolve_right (hnever _ (Nat.lt_succ_of_le hm))

end

theorem State.exclusive.lockAwaited {s : State} {k : Nat} (hexcl : s.exclusive) (hcons : s.seqConsistent)
    (hlock : s.lock = .free) (hwaits : s.waits k) : s.lockAwaited k := by
  obtain ⟨hslots, -⟩ := hexcl
  obtain ⟨hidle, -, -⟩ := hcons
  exact ⟨hlock, hwaits, hidle.mp, fun hop => (hslots _).mpr ⟨hop, rfl⟩⟩

/-- Settles O60: were the lock never taken, the acquire step would stay enabled; then fairness takes it, and its step takes
the lock, since the run does not stop there. -/
theorem waitedForLockIsTaken : Obligations.WaitedForLockIsTaken := by
  intro turn state n k hrun hfair hcons hexcl hlock hwaits
  suffices htaken : ∃ m, n < m ∧ (state m).lockTaken by
    obtain ⟨m, hm, j, hheld, hruns⟩ := htaken
    exact ⟨m, j, hm, hheld, hruns⟩
  by_contra hnever
  have hawaited (m : Nat) (hm : n ≤ m) : (state m).lockAwaited k :=
    hrun.lockAwaited_of_not_taken (hexcl.lockAwaited hcons hlock hwaits) (fun i hi ht => hnever ⟨i, hi, ht⟩) hm
  obtain ⟨m, hm, j, hturn, hj⟩ := hfair n fun m hm => ⟨(hawaited m hm).lock, k, (hawaited m hm).waits⟩
  have hstep := hrun.runTurn_eq m
  rw [hturn] at hstep
  exact hnever ⟨m + 1, by omega, lockTaken_of_acquire (hawaited m hm).lock hj hstep (hrun.running (m + 1))⟩

end Sys2Proof.Machine
end

section
/-! The steps of the pump and of the serial engine, each said once by its cases (spec/44_pump_engine.md R127, R128, R134 to
R137): what makes a FILL step push, where a DRAIN step stores, and when a step of SER is enabled. -/
namespace Sys2Proof.Machine

/-! ### The FILL step -/

theorem inflightOk_iff (s : State) :
    inflightOk s = true ↔
      ∀ limit, s.par.inflightLimit = some limit → (s.seq.pushed - s.seq.popped).toNat < limit := by
  unfold inflightOk
  cases s.par.inflightLimit <;> simp

/-- The four conditions of R127. -/
theorem fillReady_iff (s : State) :
    fillReady s = true ↔
      s.seq.pushed < s.seq.n ∧ s.txFifo.length < s.par.fifoDepth ∧ s.rxFifo.length ≠ s.par.fifoDepth ∧
        ∀ limit, s.par.inflightLimit = some limit → (s.seq.pushed - s.seq.popped).toNat < limit := by
  have hroom : (!s.rff) = true ↔ s.rxFifo.length ≠ s.par.fifoDepth := by
    rw [Ne, ← s.rff_iff, Bool.not_eq_true', Bool.not_eq_true]
  simp only [fillReady, Bool.and_eq_true, decide_eq_true_eq, s.tnf_iff, hroom, inflightOk_iff, and_assoc]

section
variable {s : State}

theorem fillStep_of_ready (h : fillReady s = true) : fillStep s = (pushUnit s).goto .drain := by
  rw [fillStep, if_pos h]

theorem fillStep_of_not_ready (h : ¬ fillReady s = true) : fillStep s = s.goto .drain := by
  rw [fillStep, if_neg h]

theorem runTurn_seq_of_fill (h : s.seq.state = .fill) : runTurn .seq s = .next (fillStep s) := by
  simp only [runTurn, seqStep, h]

theorem runTurn_seq_of_drain (h : s.seq.state = .drain) : runTurn .seq s = .next (drainStep s) := by
  simp only [runTurn, seqStep, h]

end

/-- Settles O31: the FILL step is ready exactly under the four conditions. -/
theorem fillPushesOneUnit : Obligations.FillPushesOneUnit := by
  intro s hfill ready
  rw [runTurn_seq_of_fill hfill]
  refine ⟨fun hready => ?_, fun hready => ?_⟩
  · rw [fillStep_of_ready ((fillReady_iff s).mpr hready)]; rfl
  · rw [fillStep_of_not_ready (mt (fillReady_iff s).mp hready)]; rfl

/-! ### The DRAIN step -/

section
variable {s : State} {i : BitVec 32} {a : Addr}

theorem rxStore_of_addr (hi : i < s.seq.rxLen) (ha : bufAddr s.seq.rx i.toNat = some a) (v : Byte) :
    rxStore s i v = s.memWrite a v := by
  simp only [rxStore, hi, if_true, ha]

/-- A unit past rxLen is discarded, and so is every unit when rx is ABSENT (R128). -/
theorem rxStore_of_discarded (h : s.seq.rxLen ≤ i ∨ s.seq.rx = none) (v : Byte) : rxStore s i v = s := by
  obtain hpast | habsent := h
  · exact if_neg (BitVec.not_lt.mpr hpast)
  · simp only [rxStore, habsent, bufAddr, ite_self]

end

/-- A DRAIN step that finds an entry pops it, stores its byte and moves the receive cursor on. -/
theorem drainStep_of_cons {s : State} {e : Entry} {rest : List Entry} (h : s.rxFifo = e :: rest) :
    drainStep s =
      (rxStore (s.setRxFifo rest) s.seq.popped (e.setWidth 8)).setSeq { s.seq with popped := s.seq.popped + 1 } := by
  obtain ⟨m, hm, -⟩ := rxStore_setMem (s.setRxFifo rest) s.seq.popped (e.setWidth 8)
  simp only [drainStep, h, hm, State.setMem_seq, State.setRxFifo_seq]

/-- Settles O32: an entry's byte goes where RX_STORE puts it, by the laws of system memory; without an entry the cursors
decide. -/
theorem drainStoresOneUnit : Obligations.DrainStoresOneUnit := by
  intro s hdrain hmem
  rw [runTurn_seq_of_drain hdrain]
  refine ⟨fun e rest hrx => ⟨drainStep s, rfl, ?_, fun a hi ha => ?_, fun hdiscard => ?_⟩, fun hrx => ⟨fun hdone => ?_,
    fun hmore => ?_⟩⟩
  · obtain ⟨m, hpop, -⟩ := drainStep_pop hrx
    rw [hpop]; rfl
  · rw [drainStep_of_cons hrx, rxStore_of_addr (s := s.setRxFifo rest) hi ha]
    exact ⟨memRead_memWrite_same s a _ hmem, fun b hb => memRead_memWrite_other s _ hmem hb⟩
  · rw [drainStep_of_cons hrx, rxStore_of_discarded (s := s.setRxFifo rest) hdiscard]; rfl
  · rw [drainStep_empty hrx, if_pos hdone]; rfl
  · rw [drainStep_empty hrx, if_neg hmore]; rfl

/-! ### Frames -/

theorem frameEnabled_iff (s : State) :
    frameEnabled s = true ↔ s.clk = true ∧ s.regs.sse = true ∧ s.ser.busy = false := by
  simp only [frameEnabled, Bool.and_eq_true, Bool.not_eq_true', and_assoc]

/-- The formats that a frame start refuses (60_exceptions.md R159). -/
theorem unmodelledFrame_iff (r : Regs) :
    unmodelledFrame r = true ↔ r.dss ≠ 7 ∨ r.frf ≠ 0 ∨ r.ms = true ∨ r.cpsr = 0 := by
  simp only [unmodelledFrame, Bool.or_eq_true, bne_iff_ne, beq_iff_eq, or_assoc]

section
variable {s : State} {e : Entry} {rest : List Entry}

theorem frameStartStep_of_refused (htx : s.txFifo = e :: rest) (hen : frameEnabled s = true)
    (hformat : unmodelledFrame s.regs = true) : frameStartStep s = s.halt (.refusal .unmodelledFrame) := by
  simp only [frameStartStep, htx, hen, hformat, if_true]

theorem frameStartStep_of_legal (htx : s.txFifo = e :: rest) (hen : frameEnabled s = true)
    (hformat : unmodelledFrame s.regs = false) :
    frameStartStep s = (s.setTxFifo rest).setSer { busy := true, shift := e.setWidth 8, latched := s.liveImage } := by
  simp only [frameStartStep, htx, hen, hformat, if_true, Bool.false_eq_true, if_false]

theorem frameStartStep_of_not_enabled (h : ¬ s.frameStartEnabled) : frameStartStep s = s := by
  unfold frameStartStep
  split
  · rfl
  · rename_i htx
    exact if_neg fun hen => h ⟨hen, by simp [htx]⟩

end

/-- Settles O35: the frame start is enabled with a frame to send, and then the live format decides. -/
theorem frameStartLatches : Obligations.FrameStartLatches := by
  intro s
  refine ⟨fun hclk hsse hidle e rest htx => ?_, fun hnot => ?_⟩
  · have hen : frameEnabled s = true := (frameEnabled_iff s).mpr ⟨hclk, hsse, hidle⟩
    refine ⟨fun hrefused => ?_, fun ⟨hdss, hfrf, hms, hcpsr⟩ => ?_⟩
    · rw [runTurn, frameStartStep_of_refused htx hen ((unmodelledFrame_iff _).mpr hrefused)]; rfl
    · have hformat : unmodelledFrame s.regs = false := by
        rw [← Bool.not_eq_true, unmodelledFrame_iff]
        rintro (h | h | h | h)
        exacts [h hdss, h hfrf, Bool.noConfusion (hms.symm.trans h), hcpsr h]
      rw [runTurn, frameStartStep_of_legal htx hen hformat]; rfl
  · rw [runTurn, frameStartStep_of_not_enabled]
    rintro ⟨hen, hframe⟩
    obtain ⟨hclk, hsse, hidle⟩ := (frameEnabled_iff s).mp hen
    obtain h | h | h | h := hnot
    · exact Bool.noConfusion (hclk.symm.trans h)
    · exact Bool.noConfusion (hsse.symm.trans h)
    · exact Bool.noConfusion (hidle.symm.trans h)
    · exact hframe h

/-- Settles O36: a completing frame's byte is received, and whether there is room does not depend on the FRAME event. -/
theorem frameDoneReceives : Obligations.FrameDoneReceives := by
  refine fun s dataIn => ⟨fun hbusy => ?_, fun hidle => ?_⟩
  · intro miso frame
    have hstep : frameDoneStep dataIn s = (receive (s.emit frame) miso).setSer { s.ser with busy := false } := if_pos hbusy
    rw [runTurn, hstep]
    refine ⟨fun hroom => ?_, fun hfull => ?_⟩
    · have hreceive : receive (s.emit frame) miso = (s.emit frame).pushRx (miso.setWidth 16) := if_pos hroom
      rw [hreceive]; rfl
    · have hreceive : receive (s.emit frame) miso = ((s.emit frame).setRorris true).emit (.overrun miso) :=
        if_neg (Nat.not_lt.mpr hfull)
      have htrace : s.trace ++ [frame, .overrun miso] = s.trace ++ [frame] ++ [.overrun miso] := by simp
      rw [hreceive, htrace]; rfl
  · have hstep : frameDoneStep dataIn s = s := if_neg (by simp [hidle])
    rw [runTurn, hstep]

/-! ### The draws of RTRIS -/

/-- Settles O37: each draw by its condition, and ICR's bit 1 by the rule of a write of ICR. -/
theorem receiveTimeoutDraws : Obligations.ReceiveTimeoutDraws := by
  intro s
  refine ⟨fun hdata hidle => ?_, fun hempty => ?_, fun hnot => ?_, fun hdata => ?_, fun w hclk hidle hw => ?_⟩
  · exact congrArg Host.Outcome.next (if_pos ⟨List.length_pos_iff.mpr hdata, hidle⟩)
  · exact congrArg Host.Outcome.next (if_pos (List.length_eq_zero_iff.mpr hempty))
  · refine congrArg Host.Outcome.next (if_neg fun ⟨hpos, hidle⟩ => ?_)
    exact hnot.elim (List.length_pos_iff.mp hpos) (by simp [hidle])
  · exact congrArg Host.Outcome.next (if_neg (mt List.length_eq_zero_iff.mp hdata))
  · refine ⟨_, exec_write (i := .wrIcr w) (b := 0x160) rfl hclk hidle rfl, ?_⟩
    rw [clearIcr_eq]
    simp [hw]

end Sys2Proof.Machine
end

section
/-! The pump without frame completions (spec/44_pump_engine.md R131): while units are missing, no step leaves FILL and
DRAIN. -/
namespace Sys2Proof.Machine

/-- A cursor that is below a bound moves on without wrapping. -/
theorem toNat_add_one_of_lt {x n : BitVec 32} (h : x.toNat < n.toNat) : (x + 1).toNat = x.toNat + 1 :=
  BitVec.toNat_add_of_lt (Nat.lt_of_le_of_lt h n.isLt)

/-- A TRANSCEIVE is in its pump, and fewer units are popped or waiting in RXFIFO than N. -/
structure State.unitsMissing (s : State) : Prop where
  inPump : s.inPump
  missing : s.seq.popped.toNat + s.rxFifo.length < s.seq.n.toNat

section
variable {s t : State} {u : Turn}

theorem State.not_running (h : s.fault ≠ none ∨ s.refused ≠ none) : ¬ s.running :=
  fun ⟨hfault, hrefused⟩ => h.elim (· hfault) (· hrefused)

/-- What the steps outside the pump leave alone includes its position. -/
theorem State.inPump.of_frame (h : s.inPump) (hf : PumpFrame s t) : t.inPump := by
  rwa [State.inPump, hf.seq]

theorem State.unitsMissing.after_fillStep (h : s.unitsMissing) : (fillStep s).unitsMissing := by
  obtain ⟨⟨hop, -⟩, hmissing⟩ := h
  by_cases hready : fillReady s = true
  · rw [fillStep_of_ready hready]
    exact ⟨⟨hop, .inr rfl⟩, hmissing⟩
  · rw [fillStep_of_not_ready hready]
    exact ⟨⟨hop, .inr rfl⟩, hmissing⟩

/-- A unit that is popped was waiting in RXFIFO; with none there, the receive cursor is below N and SEQ goes back to
FILL. -/
theorem State.unitsMissing.after_drainStep (h : s.unitsMissing) : (drainStep s).unitsMissing := by
  obtain ⟨⟨hop, hstate⟩, hmissing⟩ := h
  cases hrx : s.rxFifo with
  | nil =>
    have hmore : ¬ (s.seq.pushed = s.seq.n ∧ s.seq.popped = s.seq.n) := fun ⟨_, hpopped⟩ => by
      rw [hpopped] at hmissing
      omega
    rw [drainStep_empty hrx, if_neg hmore]
    exact ⟨⟨hop, .inl rfl⟩, hmissing⟩
  | cons e rest =>
    obtain ⟨m, hpop, -⟩ := drainStep_pop hrx
    rw [hrx, List.length_cons] at hmissing
    have hcursor : (s.seq.popped + 1).toNat = s.seq.popped.toNat + 1 :=
      toNat_add_one_of_lt (n := s.seq.n) (by omega)
    rw [hpop]
    refine ⟨⟨hop, hstate⟩, ?_⟩
    change (s.seq.popped + 1).toNat + rest.length < s.seq.n.toNat
    omega

/-- Only a frame completion brings a unit into RXFIFO. -/
theorem State.unitsMissing.of_pumpEffect (h : s.unitsMissing) (he : PumpEffect s u t) (hrunning : t.running)
    (hdone : ¬ isFrameDone u) : t.unitsMissing := by
  cases he with
  | stop _ hstopped => exact absurd hrunning (State.not_running hstopped)
  | other _ _ hf hrx => exact ⟨h.inPump.of_frame hf, by rw [hf.seq, hrx]; exact h.missing⟩
  | start => exact ⟨h.inPump, h.missing⟩
  | done miso => exact absurd ⟨miso, rfl⟩ hdone
  | fill => exact h.after_fillStep
  | drain => exact h.after_drainStep

end

/-- Settles O59: without a frame completion the missing units go on missing. -/
theorem pumpLoopsWithoutFrames : Obligations.PumpLoopsWithoutFrames := by
  intro turn state n hrun hnone hpump hmissing
  suffices hall : ∀ m, n ≤ m → (state m).unitsMissing from fun m hm => (hall m hm).inPump
  intro m hm
  induction m, hm using Nat.le_induction with
  | base => exact ⟨hpump, hmissing⟩
  | succ m hm ih =>
    exact ih.of_pumpEffect (pump_effect ih.inPump (hrun.runTurn_eq m)) (hrun.running (m + 1)) (hnone m hm)

end Sys2Proof.Machine
end

section
/-! Progress of the pump (spec/44_pump_engine.md R130, R131). Each unit goes from the transmit cursor through TXFIFO, the
shifter and RXFIFO to the receive cursor, and no step takes it back, so in a run that never reaches DESELECT the work left
becomes constant. From there on every step stalls; but weak fairness makes SER drain TXFIFO and the shifter and SEQ drain
RXFIFO, after which a FILL step pushes the next unit or a DRAIN step goes to DESELECT. -/
namespace Sys2Proof.Machine

/-! ### A pump that can be carried through -/

/-- A TRANSCEIVE is in its pump with its units accounted for, and SER can send them (R130, R131). -/
structure State.pumping (s : State) : Prop where
  inPump : s.inPump
  accounted : s.inflightAccounted
  legal : s.par.legal
  within : s.par.inflightWithinDepth
  canSend : s.canSend

/-- A TRANSCEIVE has reached DESELECT. -/
def State.atDeselect (s : State) : Prop := s.seq.op = .transceive ∧ s.seq.state = .deselect

/-- What is left to do: four moves for each unit not yet pushed, three for each in TXFIFO, two for the frame in the
shifter and one for each unit in RXFIFO. -/
def State.pumpWork (s : State) : Nat :=
  4 * (s.seq.n.toNat - s.seq.pushed.toNat) + 3 * s.txFifo.length + 2 * s.inShifter + s.rxFifo.length

theorem State.inShifter_of_busy {s : State} (h : s.ser.busy = true) : s.inShifter = 1 := if_pos h

theorem State.inShifter_of_idle {s : State} (h : s.ser.busy = false) : s.inShifter = 0 := if_neg (by simp [h])

section
variable {s t : State}

theorem State.canSend.of_frame (h : s.canSend) (hf : PumpFrame s t) : t.canSend := by
  simpa only [State.canSend, unmodelledFrame, Regs.sse, Regs.dss, Regs.frf, Regs.ms, hf.clk, hf.cr0, hf.cr1, hf.cpsr] using h

/-- A step outside the pump keeps it going if the units are still accounted for. -/
theorem State.pumping.of_frame (h : s.pumping) (hf : PumpFrame s t) (hacc : t.inflightAccounted) : t.pumping :=
  ⟨h.inPump.of_frame hf, hacc, hf.par ▸ h.legal, hf.par ▸ h.within, h.canSend.of_frame hf⟩

/-- In a pump in which a frame is in progress RXFIFO has room, since the frame's unit is in flight too (R130). -/
theorem State.pumping.room_of_busy (h : s.pumping) (hbusy : s.ser.busy = true) :
    s.rxFifo.length < s.par.fifoDepth := by
  obtain ⟨hsum, -, hlimit⟩ := h.accounted
  obtain ⟨limit, hpar, hdepth⟩ := h.within
  have hinflight : s.seq.pushed.toNat ≤ s.seq.popped.toNat + limit := hlimit limit hpar
  rw [State.inShifter_of_busy hbusy] at hsum
  omega

/-- With nothing in flight and units left to push, a FILL step is ready to push one. -/
theorem State.pumping.fillReady_of_drained (h : s.pumping) (hdrained : s.drained)
    (hmore : ¬ (s.seq.pushed = s.seq.n ∧ s.seq.popped = s.seq.n)) : fillReady s = true := by
  obtain ⟨htx, hrx, hidle⟩ := hdrained
  obtain ⟨hsum, hle, -⟩ := h.accounted
  obtain ⟨hdepth, hlimits⟩ := h.legal
  have hcursors : s.seq.popped = s.seq.pushed := by
    apply BitVec.eq_of_toNat_eq
    simpa [htx, hrx, State.inShifter_of_idle hidle] using hsum
  have hne : s.seq.pushed ≠ s.seq.n := fun hn => hmore ⟨hn, hcursors.trans hn⟩
  refine (fillReady_iff s).mpr ⟨?_, ?_, ?_, fun limit hpar => ?_⟩
  · exact Nat.lt_of_le_of_ne hle fun hn => hne (BitVec.eq_of_toNat_eq hn)
  · rw [htx, List.length_nil]; omega
  · rw [hrx, List.length_nil]; omega
  · have hpos : 1 ≤ limit := (hlimits limit hpar).1
    rw [hcursors, BitVec.sub_self, BitVec.toNat_zero]
    exact hpos

/-! ### What a turn does to it -/

/-- A turn that moves no unit: a step outside the pump, a FILL step that is not ready, or a DRAIN step with RXFIFO empty
and units left. -/
inductive PumpStall (s : State) : Turn → State → Prop where
  | other (u : Turn) {t : State} (notSeq : u ≠ .seq) (frame : PumpFrame s t) (rxFifo : t.rxFifo = s.rxFifo)
      (busy : t.ser.busy = s.ser.busy) (start : u = .frameStart → ¬ s.frameStartEnabled)
      (done : isFrameDone u → ¬ s.frameDoneEnabled) : PumpStall s u t
  | fill (state : s.seq.state = .fill) (notReady : ¬ fillReady s = true) : PumpStall s .seq (s.goto .drain)
  | drain (state : s.seq.state = .drain) (rxFifo : s.rxFifo = [])
      (more : ¬ (s.seq.pushed = s.seq.n ∧ s.seq.popped = s.seq.n)) : PumpStall s .seq (s.goto .fill)

/-- What a turn makes of a pump: it moves a unit on, moves none, or reaches DESELECT. -/
inductive PumpProgress (s : State) (u : Turn) (t : State) : Prop where
  | move (pumping : t.pumping) (work : t.pumpWork < s.pumpWork)
  | stall (pumping : t.pumping) (stall : PumpStall s u t)
  | deselect (deselect : t.atDeselect)

theorem State.pumping.after_frameStart (h : s.pumping) {e : Entry} {rest : List Entry} (htx : s.txFifo = e :: rest)
    (hidle : s.ser.busy = false) :
    PumpProgress s .frameStart ((s.setTxFifo rest).setSer ⟨true, e.setWidth 8, s.liveImage⟩) := by
  obtain ⟨hsum, hle, hlimit⟩ := h.accounted
  rw [htx, List.length_cons, State.inShifter_of_idle hidle] at hsum
  refine .move ⟨h.inPump, ⟨?_, hle, hlimit⟩, h.legal, h.within, h.canSend⟩ ?_
  · change rest.length + 1 + s.rxFifo.length + s.seq.popped.toNat = s.seq.pushed.toNat
    omega
  · change 4 * (s.seq.n.toNat - s.seq.pushed.toNat) + 3 * rest.length + 2 * 1 + s.rxFifo.length < s.pumpWork
    rw [State.pumpWork, State.inShifter_of_idle hidle, htx, List.length_cons]
    omega

theorem State.pumping.after_frameDone (h : s.pumping) (u : Turn) (hf : PumpFrame s t) (hbusy : s.ser.busy = true)
    (hidle : t.ser.busy = false) (hrx : t.rxFifo.length = s.rxFifo.length + 1) : PumpProgress s u t := by
  obtain ⟨hsum, hle, hlimit⟩ := h.accounted
  rw [State.inShifter_of_busy hbusy] at hsum
  refine .move (h.of_frame hf ⟨?_, ?_, ?_⟩) ?_
  · rw [hf.seq, hf.txFifo, State.inShifter_of_idle hidle, hrx]
    omega
  · rwa [hf.seq]
  · rwa [hf.seq, hf.par]
  · rw [State.pumpWork, State.pumpWork, State.inShifter_of_busy hbusy, State.inShifter_of_idle hidle, hf.seq, hf.txFifo, hrx]
    omega

theorem State.pumping.after_fillStep (h : s.pumping) (hstate : s.seq.state = .fill) : PumpProgress s .seq (fillStep s) := by
  obtain ⟨hop, -⟩ := h.inPump
  by_cases hready : fillReady s = true
  · obtain ⟨hsum, hle, hlimit⟩ := h.accounted
    obtain ⟨hlt, -, -, hroom⟩ := (fillReady_iff s).mp hready
    have hlt' : s.seq.pushed.toNat < s.seq.n.toNat := hlt
    have hcursor : (s.seq.pushed + 1).toNat = s.seq.pushed.toNat + 1 := toNat_add_one_of_lt hlt'
    have hinflight : (s.seq.pushed - s.seq.popped).toNat = s.seq.pushed.toNat - s.seq.popped.toNat :=
      BitVec.toNat_sub_of_le (show s.seq.popped.toNat ≤ s.seq.pushed.toNat by omega)
    rw [fillStep_of_ready hready]
    refine .move ⟨⟨hop, .inr rfl⟩, ⟨?_, ?_, fun limit hpar => ?_⟩, h.legal, h.within, h.canSend⟩ ?_
    · change (s.txFifo ++ [_]).length + s.inShifter + s.rxFifo.length + s.seq.popped.toNat = (s.seq.pushed + 1).toNat
      rw [List.length_append, List.length_singleton]
      omega
    · change (s.seq.pushed + 1).toNat ≤ s.seq.n.toNat
      omega
    · have hroom' := hroom limit hpar
      change (s.seq.pushed + 1).toNat ≤ s.seq.popped.toNat + limit
      omega
    · change 4 * (s.seq.n.toNat - (s.seq.pushed + 1).toNat) + 3 * (s.txFifo ++ [_]).length + 2 * s.inShifter +
        s.rxFifo.length < s.pumpWork
      rw [State.pumpWork, List.length_append, List.length_singleton]
      omega
  · rw [fillStep_of_not_ready hready]
    exact .stall ⟨⟨hop, .inr rfl⟩, h.accounted, h.legal, h.within, h.canSend⟩ (.fill hstate hready)

theorem State.pumping.after_drainStep (h : s.pumping) (hstate : s.seq.state = .drain) :
    PumpProgress s .seq (drainStep s) := by
  obtain ⟨hop, -⟩ := h.inPump
  cases hrx : s.rxFifo with
  | nil =>
    rw [drainStep_empty hrx]
    split
    · exact .deselect ⟨hop, rfl⟩
    · rename_i hmore
      exact .stall ⟨⟨hop, .inl rfl⟩, h.accounted, h.legal, h.within, h.canSend⟩ (.drain hstate hrx hmore)
  | cons e rest =>
    obtain ⟨hsum, hle, hlimit⟩ := h.accounted
    obtain ⟨m, hpop, -⟩ := drainStep_pop hrx
    rw [hrx, List.length_cons] at hsum
    have hcursor : (s.seq.popped + 1).toNat = s.seq.popped.toNat + 1 :=
      toNat_add_one_of_lt (n := s.seq.pushed) (by omega)
    rw [hpop]
    refine .move ⟨⟨hop, .inr hstate⟩, ⟨?_, hle, fun limit hpar => ?_⟩, h.legal, h.within, h.canSend⟩ ?_
    · change s.txFifo.length + s.inShifter + rest.length + (s.seq.popped + 1).toNat = s.seq.pushed.toNat
      omega
    · have hlimit' := hlimit limit hpar
      change s.seq.pushed.toNat ≤ (s.seq.popped + 1).toNat + limit
      omega
    · change 4 * (s.seq.n.toNat - s.seq.pushed.toNat) + 3 * s.txFifo.length + 2 * s.inShifter + rest.length < s.pumpWork
      rw [State.pumpWork, hrx, List.length_cons]
      omega

/-- A step outside the pump leaves every unit where it is. -/
theorem State.inflightAccounted.of_frame (h : s.inflightAccounted) (hf : PumpFrame s t) (hrx : t.rxFifo = s.rxFifo)
    (hbusy : t.ser.busy = s.ser.busy) : t.inflightAccounted := by
  simpa only [State.inflightAccounted, State.inShifter, hf.seq, hf.txFifo, hf.par, hrx, hbusy] using h

/-- Every turn that does not stop the run moves a unit on, stalls, or reaches DESELECT. -/
theorem State.pumping.progress {u : Turn} (h : s.pumping) (hstep : runTurn u s = .next t) (hrunning : t.running) :
    PumpProgress s u t := by
  cases pump_effect h.inPump hstep with
  | stop _ hstopped => exact absurd hrunning (State.not_running hstopped)
  | other _ hu hf hrx hbusy hstart hdone =>
    exact .stall (h.of_frame hf (h.accounted.of_frame hf hrx hbusy)) (.other u hu hf hrx hbusy hstart hdone)
  | start htx hidle => exact h.after_frameStart htx hidle
  | done miso hf hbusy hidle hreceive =>
    obtain ⟨-, hrx⟩ | ⟨hfull, -⟩ := hreceive
    · exact h.after_frameDone _ hf hbusy hidle hrx
    · exact absurd (h.room_of_busy hbusy) (Nat.not_lt.mpr hfull)
  | fill hstate => exact h.after_fillStep hstate
  | drain hstate => exact h.after_drainStep hstate

/-! ### What a stall leaves alone -/

/-- The same units are in the same places. -/
structure SameUnits (s t : State) : Prop where
  txFifo : t.txFifo = s.txFifo
  rxFifo : t.rxFifo = s.rxFifo
  busy : t.ser.busy = s.ser.busy
  pushed : t.seq.pushed = s.seq.pushed
  popped : t.seq.popped = s.seq.popped
  n : t.seq.n = s.seq.n

theorem SameUnits.refl (s : State) : SameUnits s s := ⟨rfl, rfl, rfl, rfl, rfl, rfl⟩

theorem SameUnits.trans {r : State} (h : SameUnits r s) (h' : SameUnits s t) : SameUnits r t :=
  ⟨h'.txFifo.trans h.txFifo, h'.rxFifo.trans h.rxFifo, h'.busy.trans h.busy, h'.pushed.trans h.pushed,
    h'.popped.trans h.popped, h'.n.trans h.n⟩

theorem SameUnits.pumpWork_eq (h : SameUnits s t) : t.pumpWork = s.pumpWork := by
  simp only [State.pumpWork, State.inShifter, h.txFifo, h.rxFifo, h.busy, h.pushed, h.n]

section
variable {u : Turn}

theorem PumpStall.sameUnits (h : PumpStall s u t) : SameUnits s t := by
  cases h with
  | other _ _ hf hrx hbusy =>
    exact ⟨hf.txFifo, hrx, hbusy, congrArg Seq.pushed hf.seq, congrArg Seq.popped hf.seq, congrArg Seq.n hf.seq⟩
  | fill | drain => exact ⟨rfl, rfl, rfl, rfl, rfl, rfl⟩

theorem PumpStall.not_frameStart (h : PumpStall s u t) (henabled : s.frameStartEnabled) : u ≠ .frameStart := by
  cases h with
  | other _ _ _ _ _ hstart => exact fun hu => hstart hu henabled
  | fill | drain => exact Turn.noConfusion

theorem PumpStall.not_frameDone (h : PumpStall s u t) (henabled : s.frameDoneEnabled) : ¬ isFrameDone u := by
  cases h with
  | other _ _ _ _ _ _ hdone => exact fun hu => hdone hu henabled
  | fill | drain => exact fun ⟨_, hu⟩ => Turn.noConfusion hu

theorem PumpStall.state_of_ne_seq (h : PumpStall s u t) (hu : u ≠ .seq) : t.seq.state = s.seq.state := by
  cases h with
  | other _ _ hf => rw [hf.seq]
  | fill | drain => exact absurd rfl hu

theorem PumpStall.of_fill (h : PumpStall s .seq t) (hstate : s.seq.state = .fill) :
    t.seq.state = .drain ∧ ¬ fillReady s = true := by
  cases h with
  | other _ hu => exact absurd rfl hu
  | fill _ hnot => exact ⟨rfl, hnot⟩
  | drain hdrain => exact SeqState.noConfusion (hstate.symm.trans hdrain)

theorem PumpStall.of_drain (h : PumpStall s .seq t) (hstate : s.seq.state = .drain) :
    t.seq.state = .fill ∧ s.rxFifo = [] ∧ ¬ (s.seq.pushed = s.seq.n ∧ s.seq.popped = s.seq.n) := by
  cases h with
  | other _ hu => exact absurd rfl hu
  | fill hfill => exact SeqState.noConfusion (hstate.symm.trans hfill)
  | drain _ hrx hmore => exact ⟨rfl, hrx, hmore⟩

end
end

/-! ### No fair run stalls for ever -/

/-- From number `n` on every turn of a run stalls its pump. -/
structure StalledFrom (turn : Nat → Turn) (state : Nat → State) (n : Nat) : Prop where
  pumping : ∀ m, n ≤ m → (state m).pumping
  stall : ∀ m, n ≤ m → PumpStall (state m) (turn m) (state (m + 1))

section
variable {turn : Nat → Turn} {state : Nat → State} {n : Nat}

theorem StalledFrom.mono (h : StalledFrom turn state n) {m : Nat} (hm : n ≤ m) : StalledFrom turn state m :=
  ⟨fun k hk => h.pumping k (hm.trans hk), fun k hk => h.stall k (hm.trans hk)⟩

theorem StalledFrom.sameUnits (h : StalledFrom turn state n) {m : Nat} (hm : n ≤ m) : SameUnits (state n) (state m) := by
  induction m, hm using Nat.le_induction with
  | base => exact .refl _
  | succ m hm ih => exact ih.trans (h.stall m hm).sameUnits

/-- A frame in progress would be completed. -/
theorem StalledFrom.idle (h : StalledFrom turn state n) (hfair : FrameFair turn state) : (state n).ser.busy = false := by
  by_contra hbusy
  have henabled (m : Nat) (hm : n ≤ m) : (state m).frameDoneEnabled :=
    (h.sameUnits hm).busy.trans (eq_true_of_ne_false hbusy)
  obtain ⟨m, hm, hdone⟩ := hfair.2 n henabled
  exact (h.stall m hm).not_frameDone (henabled m hm) hdone

/-- The oldest entry of TXFIFO would be sent. -/
theorem StalledFrom.txFifo_empty (h : StalledFrom turn state n) (hfair : FrameFair turn state) :
    (state n).txFifo = [] := by
  by_contra htx
  have henabled (m : Nat) (hm : n ≤ m) : (state m).frameStartEnabled := by
    obtain ⟨hclk, hsse, -⟩ := (h.pumping m hm).canSend
    refine ⟨(frameEnabled_iff _).mpr ⟨hclk, hsse, (h.mono hm).idle hfair⟩, ?_⟩
    rwa [(h.sameUnits hm).txFifo]
  obtain ⟨m, hm, hstart⟩ := hfair.1 n henabled
  exact (h.stall m hm).not_frameStart (henabled m hm) hstart

/-- Only SEQ's turns change its state, so it takes one in the state it is in. -/
theorem StalledFrom.seq_turn (h : StalledFrom turn state n) (hfair : SeqStateFair turn state) :
    ∃ m, n ≤ m ∧ turn m = .seq ∧ (state m).seq.state = (state n).seq.state := by
  by_contra hnever
  have hsame (m : Nat) (hm : n ≤ m) : (state m).seq.state = (state n).seq.state := by
    induction m, hm using Nat.le_induction with
    | base => rfl
    | succ m hm ih => exact ((h.stall m hm).state_of_ne_seq fun hu => hnever ⟨m, hm, hu, ih⟩).trans ih
  have henabled (m : Nat) (hm : n ≤ m) : (state m).seqEnabled := by
    obtain ⟨-, hstate⟩ := (h.pumping m hm).inPump
    exact fun hidle => by simp [hidle] at hstate
  obtain ⟨m, hm, hu⟩ := hfair n henabled
  exact hnever ⟨m, hm, hu, hsame m hm⟩

/-- After a DRAIN turn comes a FILL turn. -/
theorem StalledFrom.fill_turn (h : StalledFrom turn state n) (hfair : SeqStateFair turn state) :
    ∃ m, n ≤ m ∧ turn m = .seq ∧ (state m).seq.state = .fill := by
  obtain ⟨m, hm, hu, hstate⟩ := h.seq_turn hfair
  obtain ⟨-, hfill | hdrain⟩ := (h.pumping n le_rfl).inPump
  · exact ⟨m, hm, hu, hstate.trans hfill⟩
  · have hnext := h.stall m hm
    rw [hu] at hnext
    obtain ⟨hfill, -⟩ := hnext.of_drain (hstate.trans hdrain)
    obtain ⟨k, hk, hu', hstate'⟩ := (h.mono (hm.trans m.le_succ)).seq_turn hfair
    exact ⟨k, by omega, hu', hstate'.trans hfill⟩

/-- At a FILL turn SER has sent all it can, and the DRAIN turn after it finds RXFIFO empty and units left; so the FILL step
was ready to push. -/
theorem not_stalledFrom (hseq : SeqStateFair turn state) (hframe : FrameFair turn state) : ¬ StalledFrom turn state n := by
  intro h
  obtain ⟨m, hm, hu, hfill⟩ := h.fill_turn hseq
  have hm' : StalledFrom turn state m := h.mono hm
  have hstall := hm'.stall m le_rfl
  rw [hu] at hstall
  obtain ⟨hdrain, hnot⟩ := hstall.of_fill hfill
  obtain ⟨k, hk, hu', hstate⟩ := (hm'.mono m.le_succ).seq_turn hseq
  have hstall' := hm'.stall k (by omega)
  rw [hu'] at hstall'
  obtain ⟨-, hrx, hmore⟩ := hstall'.of_drain (hstate.trans hdrain)
  have hsame : SameUnits (state m) (state k) := hm'.sameUnits (by omega)
  rw [hsame.rxFifo] at hrx
  rw [hsame.pushed, hsame.popped, hsame.n] at hmore
  have hdrained : (state m).drained := ⟨hm'.txFifo_empty hframe, hrx, hm'.idle hframe⟩
  exact hnot ((hm'.pumping m le_rfl).fillReady_of_drained hdrained hmore)

/-! ### Reaching DESELECT -/

/-- A pump goes on until DESELECT is reached. -/
theorem IsRun.pumping_of_not_deselect (hrun : IsRun turn state) (hn : (state n).pumping) {m : Nat} (hm : n ≤ m)
    (hnever : ∀ k, n < k → k ≤ m → ¬ (state k).atDeselect) : (state m).pumping := by
  induction m, hm using Nat.le_induction with
  | base => exact hn
  | succ m hm ih =>
    have hm' : (state m).pumping := ih fun k hk hle => hnever k hk (hle.trans m.le_succ)
    cases hm'.progress (hrun.runTurn_eq m) (hrun.running (m + 1)) with
    | move hpumping => exact hpumping
    | stall hpumping => exact hpumping
    | deselect h => exact absurd h (hnever (m + 1) (Nat.lt_succ_of_le hm) le_rfl)

/-- From the point with the least work left on, a pump that never reached DESELECT would stall. -/
theorem IsRun.exists_atDeselect (hrun : IsRun turn state) (hseq : SeqStateFair turn state)
    (hframe : FrameFair turn state) (hn : (state n).pumping) : ∃ m, n < m ∧ (state m).atDeselect := by
  by_contra hnever
  have hnot (k : Nat) (hk : n < k) : ¬ (state k).atDeselect := fun h => hnever ⟨k, hk, h⟩
  have hpumping (m : Nat) (hm : n ≤ m) : (state m).pumping :=
    hrun.pumping_of_not_deselect hn hm fun k hk _ => hnot k hk
  obtain ⟨m, hm, hleast⟩ := exists_minimalFor_of_wellFoundedLT (n ≤ ·) (fun m => (state m).pumpWork) ⟨n, le_rfl⟩
  have hstall (k : Nat) (hk : m ≤ k) (hwork : (state k).pumpWork = (state m).pumpWork) :
      PumpStall (state k) (turn k) (state (k + 1)) := by
    have hk' : n ≤ k := hm.trans hk
    cases (hpumping k hk').progress (hrun.runTurn_eq k) (hrun.running (k + 1)) with
    | move _ hless =>
      rw [hwork] at hless
      exact absurd (hleast (hk'.trans k.le_succ) hless.le) (Nat.not_le.mpr hless)
    | stall _ hstall => exact hstall
    | deselect h => exact absurd h (hnot (k + 1) (Nat.lt_succ_of_le hk'))
  have hwork (k : Nat) (hk : m ≤ k) : (state k).pumpWork = (state m).pumpWork := by
    induction k, hk using Nat.le_induction with
    | base => rfl
    | succ k hk ih => exact (hstall k hk ih).sameUnits.pumpWork_eq.trans ih
  exact not_stalledFrom hseq hframe ⟨fun k hk => hpumping k (hm.trans hk), fun k hk => hstall k hk (hwork k hk)⟩

end

theorem State.pumpAccounted.inflightAccounted {s : State} (h : s.pumpAccounted) (hpump : s.inPump) :
    s.inflightAccounted := by
  obtain ⟨hop, hstate⟩ := hpump
  have hacc := h hop
  obtain hfill | hdrain := hstate
  · rwa [hfill] at hacc
  · rwa [hdrain] at hacc

/-- Settles O58: the first number at which DESELECT is reached, and the pump goes on until then. -/
theorem pumpReachesDeselect : Obligations.PumpReachesDeselect := by
  intro turn state n hrun hseq hframe hlegal hwithin hsend hacc hpump
  classical
  have hn : (state n).pumping := ⟨hpump, hacc.inflightAccounted hpump, hlegal, hwithin, hsend⟩
  have hexists := hrun.exists_atDeselect hseq hframe hn
  obtain ⟨hlt, hop, hstate⟩ := Nat.find_spec hexists
  refine ⟨Nat.find hexists, hlt, fun k hk hbefore => ?_, hop, hstate⟩
  have hfirst (j : Nat) (hj : n < j) (hjk : j ≤ k) : ¬ (state j).atDeselect := fun h =>
    Nat.find_min hexists (Nat.lt_of_le_of_lt hjk hbefore) ⟨hj, h⟩
  exact (hrun.pumping_of_not_deselect hn hk hfirst).inPump

end Sys2Proof.Machine
end

section
/-! The controller sequencer and its commands (spec/45_controller_sequencer.md R139 to R152): the busy flag as WAIT_BUSY and
REL_WAIT read it, the sequencer's steps around the transfer, and the commands that end at once or by polling. Who clears the
run bit is read off from what one turn can do to CR1, said once (Control1Effect). -/
namespace Sys2Proof.Machine

/-! ### The busy flag -/

theorem State.bsy_iff_ne_nil (s : State) : s.bsy = true ↔ s.ser.busy = true ∨ s.txFifo ≠ [] := by
  rw [State.bsy_iff, List.length_pos_iff]

theorem State.not_bsy_iff (s : State) : ¬ s.bsy = true ↔ s.ser.busy = false ∧ s.txFifo = [] := by
  rw [State.bsy_iff_ne_nil, not_or, not_not, Bool.not_eq_true]

/-! ### The sequencer's state steps -/

section
variable {s : State}

theorem seqStep_of_waitBusy (h : s.seq.state = .waitBusy) : seqStep s = waitBusyStep s := by
  simp only [seqStep, h]

theorem seqStep_of_flush (h : s.seq.state = .flush) : seqStep s = flushStep s := by
  simp only [seqStep, h]

theorem seqStep_of_failed (h : s.seq.state = .failed) : seqStep s = endCommand .unsupportedConfig s := by
  simp only [seqStep, h, failedStep]

theorem seqStep_of_finish (h : s.seq.state = .finish) : seqStep s = endCommand .ok s := by
  simp only [seqStep, h, finishStep]

theorem seqStep_of_select (h : s.seq.state = .select) : seqStep s = selectStep s := by
  simp only [seqStep, h]

theorem seqStep_of_enable (h : s.seq.state = .enable) : seqStep s = enableStep s := by
  simp only [seqStep, h]

theorem seqStep_of_deselect (h : s.seq.state = .deselect) : seqStep s = deselectStep s := by
  simp only [seqStep, h]

/-! ### WAIT_BUSY and FLUSH -/

theorem waitBusyStep_of_bsy (h : s.bsy = true) : waitBusyStep s = s := if_pos h

theorem waitBusyStep_of_not_bsy (h : ¬ s.bsy = true) : waitBusyStep s = s.goto .flush := if_neg h

theorem flushStep_of_cons {e : Entry} {rest : List Entry} (h : s.rxFifo = e :: rest) :
    flushStep s = s.setRxFifo rest := by
  simp only [flushStep, h]

theorem flushStep_of_nil (h : s.rxFifo = []) : flushStep s = s.goto .check := by
  simp only [flushStep, h]

/-- The flush terminates: a FLUSH step for each entry of RXFIFO, and one more that goes to CHECK (R142). -/
theorem seqStep_iterate_flush (h : s.seq.state = .flush) :
    seqStep^[s.rxFifo.length + 1] s = (s.setRxFifo []).goto .check := by
  induction hrx : s.rxFifo generalizing s with
  | nil =>
    have hflush : seqStep s = s.goto .check := by rw [seqStep_of_flush h, flushStep_of_nil hrx]
    have hempty : s.setRxFifo [] = s := by rw [← hrx]; rfl
    rw [hempty]
    exact hflush
  | cons e rest ih =>
    have hpop : seqStep s = s.setRxFifo rest := by rw [seqStep_of_flush h, flushStep_of_cons hrx]
    rw [List.length_cons, Function.iterate_succ_apply, hpop]
    exact ih (s := s.setRxFifo rest) h rfl

end

/-- Settles O26: each step by its case, and the flush by induction on RXFIFO. -/
theorem waitBusyThenFlush : Obligations.WaitBusyThenFlush := by
  intro s
  refine ⟨fun hwait => ?_, fun hflush => ?_, seqStep_iterate_flush⟩
  · rw [runTurn, seqStep_of_waitBusy hwait]
    refine ⟨fun hbusy => ?_, fun hidle => ?_⟩
    · rw [waitBusyStep_of_bsy ((State.bsy_iff_ne_nil s).mpr hbusy)]
    · rw [waitBusyStep_of_not_bsy ((State.not_bsy_iff s).mpr hidle)]; rfl
  · rw [runTurn, seqStep_of_flush hflush]
    refine ⟨fun e rest hrx => ?_, fun hrx => ?_⟩
    · rw [flushStep_of_cons hrx]; rfl
    · rw [flushStep_of_nil hrx]; rfl

/-! ### The end of a command -/

theorem endCommand_eq (code : ResultCode) (s : State) :
    endCommand code s =
      { s with
        lock := if s.seq.op = .transceive then .free else s.lock
        slots := s.slots.set s.seq.client (.done code)
        trace := s.trace ++ [.result s.seq.client code]
        seq := { s.seq with op := .none, state := .idle } } := by
  unfold endCommand
  dsimp only
  split <;> rfl

/-- Settles O29: both steps end the command, with their own result codes. -/
theorem commandEndGivesResult : Obligations.CommandEndGivesResult := by
  refine fun s => ⟨fun hfailed => ?_, fun hfinish => ?_⟩
  · rw [runTurn, seqStep_of_failed hfailed, endCommand_eq]
  · rw [runTurn, seqStep_of_finish hfinish, endCommand_eq]

/-! ### INIT, RELEASE and TRANSCEIVE_ASYNC -/

/-- INIT lists no CFG operand and needs no clock, so only a command that is pending keeps it out (R71). -/
theorem cmdGuard_init_of_free {k : Nat} {s : State} (hfree : (s.slot k).pending = false) :
    cmdGuard 0 k none s = none :=
  (cmdGuard_none_iff 0 k none s).mpr ⟨.inr rfl, hfree, nofun⟩

/-- Settles O20: past the checks of R71, INIT's own check is that SEQ runs no command. -/
theorem initEnablesClock : Obligations.InitEnablesClock := by
  refine fun k s hk => ⟨fun hfree => ⟨fun hidle => ?_, fun hrun => ?_⟩, commandStops_init hk⟩
  · have hown : seqBusyCheck (.initDuringTransfer k) s = none := if_pos hidle
    rw [exec, execInit, hown]
    exact command_of_issue hk (cmdGuard_init_of_free hfree) _
  · have hown : seqBusyCheck (.initDuringTransfer k) s = some (.fault (.initDuringTransfer k)) := if_neg hrun
    rw [exec, execInit, hown]
    exact command_of_own hk (cmdGuard_init_of_free hfree) _

section
variable {k : Nat} {s : State}

theorem relWaitStep_of_bsy (hslot : s.slot k = .relWait) (hbusy : s.bsy = true) : relWaitStep k s = s := by
  simp only [relWaitStep, hslot, hbusy, if_true]

theorem relWaitStep_of_not_bsy (hslot : s.slot k = .relWait) (hidle : ¬ s.bsy = true) :
    relWaitStep k s = s.freeLock.finish k .ok := by
  simp only [relWaitStep, hslot, hidle, Bool.false_eq_true, if_false]

theorem relWaitStep_of_not_enabled (h : s.slot k ≠ .relWait) : relWaitStep k s = s := by
  unfold relWaitStep
  split
  · exact absurd ‹_› h
  · rfl

end

/-- Settles O23: the issue step past the checks of R71, and the three cases of the REL_WAIT step. -/
theorem releasePollsThenFreesLock : Obligations.ReleasePollsThenFreesLock := by
  refine fun k cfg s hk => ⟨fun hclk hfree hres => ?_, commandStops_release hk, fun hslot => ⟨fun hbusy => ?_,
    fun hidle => ?_⟩, fun hslot => ?_⟩
  · exact command_of_issue hk (cmdGuard_of_clear 3 hclk hfree hres) fun t => t.setSlot k .relWait
  · rw [runTurn, relWaitStep_of_bsy hslot ((State.bsy_iff_ne_nil s).mpr hbusy)]
  · rw [runTurn, relWaitStep_of_not_bsy hslot ((State.not_bsy_iff s).mpr hidle)]; rfl
  · rw [runTurn, relWaitStep_of_not_enabled hslot]

/-- Settles O24: past the checks of R71 the stub finishes its client's command. -/
theorem asyncIsNotSupported : Obligations.AsyncIsNotSupported := by
  refine fun k cfg tx rx s hk => ⟨fun hclk hfree hres => ?_, commandStops_transceiveAsync hk⟩
  exact command_of_issue hk (cmdGuard_of_clear 4 hclk hfree hres) fun t => t.finish k .notSupported

/-! ### Everything a turn can do to CR1 -/

/-- ENABLE sets bit 1 of the stored CR1 and keeps its other bits: the word written is CR1 as it is read, with bit 1 set
(R145). -/
theorem enableStep_eq (s : State) :
    enableStep s =
      { s with
        regs := { s.regs with cr1 := s.regs.cr1 ||| 2 }
        trace := s.trace ++ [.regw .seq 0x04 ((s.regs.cr1 ||| 2).setWidth 32)]
        seq := { s.seq with state := .fill } } := by
  have hread : s.readCr1 ||| 0x00000002 = (s.regs.cr1 ||| 2).setWidth 32 := by rw [BitVec.setWidth_or]; rfl
  have hfield (v : BitVec 4) : (v.setWidth 32).extractLsb' 0 4 = v :=
    (BitVec.extractLsb'_setWidth_of_le (by decide)).trans BitVec.extractLsb'_eq_self
  simp only [enableStep, hread, State.writeCr1, hfield]
  rfl

/-- The writes to CR1, each by the turn that makes it. -/
inductive Control1Effect (s : State) : Turn → State → Prop where
  /-- CR1 was not written. -/
  | none (u : Turn) {t : State} (cr1 : t.regs.cr1 = s.regs.cr1) : Control1Effect s u t
  /-- WR_CR1 (40_register_access.md R80). -/
  | wrCr1 (w : Word) {t : State} (cr1 : t.regs.cr1 = w.extractLsb' 0 4) :
      Control1Effect s (.host { selector := 0x144, wdata := w }) t
  /-- The WRITE_CR1 step (42_config_cache.md R112). -/
  | image (state : s.seq.state = .writeCr1) : Control1Effect s .seq (writeCr1Step s)
  /-- The ENABLE step (R145). -/
  | enable (state : s.seq.state = .enable) : Control1Effect s .seq (enableStep s)

/-- Only the write with selector 0x144 decodes to WR_CR1. -/
theorem decode_wrCr1 {q : Request} {w : Word} (h : decode q = .ok (.wrCr1 w)) :
    q = .bus { selector := 0x144, wdata := w } := by
  cases q with
  | bus r =>
    obtain ⟨hsel, hwdata⟩ : r.selector = 0x144 ∧ (selWrite 0x144 = true → r.wdata = w) := carriesWords_of_decodeBus h
    rw [← hsel, ← hwdata rfl]
  | cmd k c =>
    simp only [decode, decodeCmd] at h
    split at h <;> cases h

section
variable {s t : State}

theorem busRead_regs (b : BitVec 9) {rule : State → State} (hrule : (rule s).regs = s.regs) :
    (busRead b rule s).regs = s.regs := by
  obtain ⟨stop, h⟩ | ⟨-, -, h⟩ := busRead_cases b rule s
  · rw [h, State.halt_regs]
  · rw [h, hrule]

theorem busWrite_cr1 {b : BitVec 9} (hb : selWrite b = true) (w : Word) (own : Option Stop) {rule : State → State}
    (hrule : ∀ s, (rule s).regs.cr1 = s.regs.cr1) : (busWrite b w own rule s).regs.cr1 = s.regs.cr1 := by
  obtain ⟨stop, h⟩ | ⟨-, -, -, h⟩ := busWrite_cases b hb w own rule s
  · rw [h, State.halt_regs]
  · rw [h, hrule]; rfl

theorem command_regs {op : BitVec 4} {k : Nat} {cfg : Option CfgWord} {own : Option Stop} {issue : State → State}
    (h : command op k cfg own issue s = .next t) (hissue : (issue s).regs = s.regs) : t.regs = s.regs := by
  obtain ⟨-, ⟨stop, rfl⟩ | ⟨-, -, -, rfl⟩⟩ := command_cases h
  · exact State.halt_regs s stop
  · exact hissue

theorem popDr_regs (s : State) : (popDr s).regs = s.regs := by
  unfold popDr
  split <;> rfl

theorem pushDr_regs (w : Word) (s : State) : (pushDr w s).regs = s.regs := by
  unfold pushDr
  split <;> rfl

/-- Of the instructions only WR_CR1 writes CR1. -/
theorem exec_cr1 {i : Instr} (h : exec i s = .next t) :
    t.regs.cr1 = s.regs.cr1 ∨ ∃ w, i = .wrCr1 w ∧ t.regs.cr1 = w.extractLsb' 0 4 := by
  cases i with
  | wrCr1 w =>
    cases h
    obtain ⟨stop, h⟩ | ⟨-, -, -, h⟩ := busWrite_cases 0x144 rfl w (cr1Check w s) (fun t => t.writeCr1 w) s
    · rw [h, State.halt_regs]; exact .inl rfl
    · rw [h]; exact .inr ⟨w, rfl, rfl⟩
  | rdDr => cases h; exact .inl (congrArg Regs.cr1 (busRead_regs _ (popDr_regs s)))
  | rdCr0 | rdCr1 | rdSr | rdCpsr | rdImsc | rdRis | rdMis | rdIcr | rdDmacr =>
    cases h; exact .inl (congrArg Regs.cr1 (busRead_regs _ rfl))
  | wrDr w => cases h; exact .inl (busWrite_cr1 rfl w _ fun s => congrArg Regs.cr1 (pushDr_regs w s))
  | wrCr0 w | wrSr w | wrCpsr w | wrImsc w | wrRis w | wrMis w | wrIcr w | wrDmacr w =>
    cases h; exact .inl (busWrite_cr1 rfl w _ fun _ => rfl)
  | init k | configure k cfg | transceive k cfg tx rx | release k cfg | transceiveAsync k cfg tx rx =>
    simp only [exec, execInit, execConfigure, execTransceive, execRelease, execTransceiveAsync] at h
    exact .inl (congrArg Regs.cr1 (command_regs h rfl))

theorem runRequest_control1Effect {q : Request} (h : runRequest q s = .next t) : Control1Effect s (requestTurn q) t := by
  unfold runRequest at h
  split at h
  · rename_i hdec
    obtain hcr1 | ⟨w, rfl, hcr1⟩ := exec_cr1 h
    · exact .none _ hcr1
    · rw [decode_wrCr1 hdec]; exact .wrCr1 w hcr1
  · obtain ⟨f, rfl⟩ := rejectRequest_next h
    exact .none _ rfl

/-- Of SEQ's state steps only WRITE_CR1 and ENABLE write CR1. -/
theorem seqStep_control1Effect (s : State) : Control1Effect s .seq (seqStep s) := by
  unfold seqStep
  cases h : s.seq.state with
  | writeCr1 => exact .image h
  | enable => exact .enable h
  | idle | writeCr0 | writeCpsr | select | deselect => exact .none _ rfl
  | waitBusy => dsimp only [waitBusyStep]; split <;> exact .none _ rfl
  | flush => dsimp only [flushStep]; split <;> exact .none _ rfl
  | check => exact .none _ (congrArg Regs.cr1 (checkStep_regs s))
  | fill => dsimp only [fillStep]; split <;> exact .none _ rfl
  | drain => exact .none _ (congrArg Regs.cr1 (drainStep_regs s))
  | failed | finish => exact .none _ (congrArg Regs.cr1 (endCommand_regs _ s))

theorem frameDoneStep_cr1 (miso : Byte) (s : State) : (frameDoneStep miso s).regs.cr1 = s.regs.cr1 := by
  unfold frameDoneStep receive
  dsimp only
  (repeat' split) <;> rfl

/-- Every turn makes one of the named writes to CR1, or none. -/
theorem runTurn_control1Effect {u : Turn} (h : runTurn u s = .next t) : Control1Effect s u t := by
  cases u with
  | host r => exact runRequest_control1Effect (q := .bus r) h
  | client k c => exact runRequest_control1Effect (q := .cmd k c) h
  | relWait k => cases h; exact .none _ (congrArg Regs.cr1 (relWaitStep_regs k s))
  | acquire k => cases h; exact .none _ (congrArg Regs.cr1 (acquireStep_regs k s))
  | seq => cases h; exact seqStep_control1Effect s
  | frameStart => cases h; exact .none _ (congrArg Regs.cr1 (frameStartStep_regs s))
  | frameDone miso => cases h; exact .none _ (frameDoneStep_cr1 miso s)
  | timeoutSet => cases h; unfold timeoutSetStep; split <;> exact .none _ rfl
  | timeoutClear => cases h; unfold timeoutClearStep; split <;> exact .none _ rfl
  | memWrite a v => cases h; exact .none _ (congrArg Regs.cr1 (memWriteStep_regs a v s))

/-- A turn that clears SSE is the CR1 image write or a HOST write of CR1 with bit 1 clear: ENABLE only sets it (R145). -/
theorem Control1Effect.sse_clearer {u : Turn} (h : Control1Effect s u t) (hset : s.regs.cr1.getLsbD 1 = true)
    (hclear : t.regs.cr1.getLsbD 1 = false) :
    (u = .seq ∧ s.seq.state = .writeCr1) ∨
      ∃ w, u = .host { selector := 0x144, wdata := w } ∧ w.getLsbD 1 = false := by
  cases h with
  | none _ hcr1 => rw [hcr1, hset] at hclear; cases hclear
  | wrCr1 w hcr1 => exact .inr ⟨w, rfl, by simpa [hcr1] using hclear⟩
  | image hstate => exact .inl ⟨rfl, hstate⟩
  | enable => rw [enableStep_eq] at hclear; simp at hclear

end

/-- Settles O30: the three steps by their definitions, and the writes to CR1 that clear SSE among those a step can make. -/
theorem selectEnableDeselect : Obligations.SelectEnableDeselect := by
  refine ⟨fun s => ⟨fun hselect => ?_, fun henable => ?_, fun hdeselect => ?_⟩, fun s t hstep hset hclear => ?_⟩
  · rw [runTurn, seqStep_of_select hselect]; rfl
  · rw [runTurn, seqStep_of_enable henable, enableStep_eq]
  · rw [runTurn, seqStep_of_deselect hdeselect]; rfl
  · obtain ⟨-, -, hrun⟩ := step_next hstep
    obtain ⟨e, he⟩ := turnTaken_env s
    rw [he] at hrun
    exact (runTurn_control1Effect hrun).sse_clearer hset hclear

end Sys2Proof.Machine
end

section
/-! The state after reset of an instance, with its schedule going on: State.reset and every State.resetInstance are of
this form. Its flags are those of a controller with both FIFOs empty, no frame in progress and no interrupt unmasked
(spec/70_reset_and_hazards.md R172, with spec/10_state.md R22, R25, R26, R32 and R36). -/
namespace Sys2Proof.Machine

section
variable {s : State}

theorem State.readCpsr_of_cpsr_zero (hcpsr : s.regs.cpsr = 0) : s.readCpsr = 0 := by
  rw [State.readCpsr, hcpsr]
  rfl

/-- Of SR only TFE and TNF are set: both FIFOs are empty and have room, and no frame is in progress. -/
theorem State.readSr_of_fifos_empty (htx : s.txFifo = []) (hrx : s.rxFifo = []) (hbusy : s.ser.busy = false)
    (hroom : 0 < s.par.fifoDepth) : s.readSr = 0x3 := by
  have htfe : s.tfe = true := by simp [State.tfe, htx]
  have htnf : s.tnf = true := by simpa [State.tnf, htx] using hroom
  have hrne : s.rne = false := by simp [State.rne, hrx]
  have hrff : s.rff = false := by simpa [State.rff, hrx] using hroom.ne
  have hbsy : s.bsy = false := by simp [State.bsy, hbusy, htx]
  rw [State.readSr, htfe, htnf, hrne, hrff, hbsy]
  rfl

/-- Of RIS only TXRIS is set: an empty TXFIFO is at most half full, and an empty RXFIFO of two entries or more is not
half full. -/
theorem State.readRis_of_fifos_empty (htx : s.txFifo = []) (hrx : s.rxFifo = []) (hror : s.regs.rorris = false)
    (hrt : s.regs.rtris = false) (hdepth : 2 ≤ s.par.fifoDepth) : s.readRis = 0x8 := by
  have htxris : s.txris = true := by simp [State.txris, htx]
  have hrxris : s.rxris = false := by simp only [State.rxris, hrx, List.length_nil, decide_eq_false_iff_not]; omega
  rw [State.readRis, State.ris, htxris, hrxris, hrt, hror]
  rfl

theorem State.mis_of_imsc_zero (himsc : s.regs.imsc = 0) : s.mis = 0 := by
  rw [State.mis, himsc]
  exact BitVec.and_zero

theorem State.readMis_of_imsc_zero (himsc : s.regs.imsc = 0) : s.readMis = 0 := by
  rw [State.readMis, State.mis_of_imsc_zero himsc]
  rfl

theorem State.intr_of_imsc_zero (himsc : s.regs.imsc = 0) : s.intr = false := by
  rw [State.intr, State.mis_of_imsc_zero himsc]
  rfl

/-- A chip select that is not asserted is high exactly when it is active low. -/
theorem State.csPin_of_not_asserted (hcs : s.cs = false) : s.csPin = s.par.csActiveLow := by
  rw [State.csPin, hcs]
  cases s.par.csActiveLow <;> rfl

end

/-- Both kinds of reset give the initial state of some parameters, N_CLIENTS and memory, with some schedule. -/
theorem State.eq_initial_of_reset {t : State} (h : t = State.reset ∨ ∃ s : State, t = s.resetInstance) :
    ∃ par n mem env, t = (State.initial par n mem).setEnv env := by
  obtain rfl | ⟨s, rfl⟩ := h
  · exact ⟨paramsAtReset, 3, [], State.reset.env, rfl⟩
  · exact ⟨s.par, s.nClients, s.mem, s.env, rfl⟩

/-- Settles O7: the stored values are those of State.initial, which the schedule is no part of, and the flags are read
off from them. -/
theorem resetValues : Obligations.ResetValues := by
  refine ⟨fun t ht => ?_, fun s => ⟨s.par_resetInstance, s.nClients_resetInstance, s.mem_resetInstance⟩, ?_, ?_, ?_⟩
  · obtain ⟨par, n, mem, env, rfl⟩ := State.eq_initial_of_reset ht
    exact ⟨rfl, rfl, State.readCpsr_of_cpsr_zero rfl, rfl, rfl, rfl, rfl, rfl, rfl, rfl, rfl, rfl,
      fun ⟨hdepth, _⟩ => ⟨State.readSr_of_fifos_empty rfl rfl rfl (Nat.zero_lt_of_lt hdepth),
        State.readRis_of_fifos_empty rfl rfl rfl rfl hdepth⟩,
      State.readMis_of_imsc_zero rfl, State.intr_of_imsc_zero rfl, rfl, rfl, rfl, rfl, rfl, rfl, rfl, rfl, rfl, rfl,
      State.csPin_of_not_asserted rfl, rfl, fun k => State.slot_initial k par n mem, rfl, rfl, rfl⟩
  · exact State.readSr_of_fifos_empty rfl rfl rfl (Nat.zero_lt_of_lt paramsAtReset_legal.1)
  · exact State.readRis_of_fifos_empty rfl rfl rfl rfl paramsAtReset_legal.1
  · exact State.csPin_of_not_asserted rfl

end Sys2Proof.Machine
end

section
/-! Decoding inverts encoding (spec/30_encoding.md R63, R65, R67): a request decodes by the words that its instruction
lists, and every instruction's own encoding decodes to it. -/
namespace Sys2Proof.Machine

/-- A write's request decodes to the row of its selector. -/
theorem decode_encodeWrite {b : BitVec 9} (hsize : selSize b = 2) (w : Word) :
    decode (encodeWrite b w) =
      (decodeRegister (selOff b) (selWrite b) w).elim (.error (.busUnmapped b)) .ok :=
  decodeBus_of_selSize hsize

/-- Every row of R65 and R67, with every operand. -/
theorem decode_encode (i : Instr) : decode (encode i) = .ok i := by
  cases i with
  | wrCr0 w | wrCr1 w | wrDr w | wrSr w | wrCpsr w | wrImsc w | wrRis w | wrMis w | wrIcr w | wrDmacr w =>
    exact decode_encodeWrite rfl w
  | _ => rfl

/-- A read has no use for WDATA (R63). -/
theorem decodeRegister_read (off : BitVec 6) (v w : Word) : decodeRegister off false v = decodeRegister off false w := by
  unfold decodeRegister
  split <;> rfl

theorem decode_bus_congr {a b : BusRequest} (hsel : a.selector = b.selector)
    (hwdata : selWrite b.selector = true → a.wdata = b.wdata) : decode (.bus a) = decode (.bus b) := by
  have hrow : decodeRegister (selOff b.selector) (selWrite b.selector) a.wdata =
      decodeRegister (selOff b.selector) (selWrite b.selector) b.wdata := by
    cases hw : selWrite b.selector with
    | false => exact decodeRegister_read _ _ _
    | true => rw [hwdata hw]
  simp only [decode, decodeBus, hsel, hrow]

/-- A command has no use for the operands that its row of R67 does not list. -/
theorem decode_cmd_congr (k : Nat) {a b : CmdRequest} (hop : a.op = b.op) (hcfg : b.op ≠ 0 → a.cfg = b.cfg)
    (hbuf : b.op = 2 ∨ b.op = 4 → a.tx = b.tx ∧ a.rx = b.rx) : decode (.cmd k a) = decode (.cmd k b) := by
  obtain ⟨op, cfg, tx, rx⟩ := b
  dsimp only at hop hcfg hbuf
  obtain hres | hrow := (Nat.lt_or_ge op.toNat 5).symm
  · rw [decode, decode, decodeCmd_of_reserved (c := a) (hop ▸ hres), decodeCmd_of_reserved hres, hop]
  · have hcases : op = 0 ∨ op = 1 ∨ op = 2 ∨ op = 3 ∨ op = 4 := by bv_omega
    simp only [decode, decodeCmd, hop]
    obtain rfl | rfl | rfl | rfl | rfl := hcases
    · rfl
    · simp [hcfg (by decide)]
    · simp [hcfg (by decide), hbuf (by decide)]
    · simp [hcfg (by decide)]
    · simp [hcfg (by decide), hbuf (by decide)]

/-- A request decodes like any request that carries the same words. -/
theorem decode_of_carriesWords {r : Request} {i : Instr} (h : carriesWords r i) : decode r = .ok i := by
  rw [← decode_encode i]
  cases r with
  | bus a =>
    cases hi : encode i with
    | bus b =>
      simp only [carriesWords, hi] at h
      obtain ⟨hsel, hwdata⟩ := h
      exact decode_bus_congr hsel hwdata
    | cmd j b => simp only [carriesWords, hi] at h
  | cmd k a =>
    cases hi : encode i with
    | bus b => simp only [carriesWords, hi] at h
    | cmd j b =>
      simp only [carriesWords, hi] at h
      obtain ⟨rfl, hop, hcfg, hbuf⟩ := h
      exact decode_cmd_congr k hop hcfg hbuf

theorem carriesWords_of_decode {r : Request} {i : Instr} (h : decode r = .ok i) : carriesWords r i := by
  cases r with
  | bus a => exact carriesWords_of_decodeBus h
  | cmd k c =>
    obtain hres | hrow := (Nat.lt_or_ge c.op.toNat 5).symm
    · rw [decode, decodeCmd_of_reserved hres] at h
      cases h
    · obtain ⟨j, hdec, hwords, -⟩ := decode_cmd_row k hrow
      cases hdec.symm.trans h
      exact hwords

/-- Settles O1: the round trip by the rows, and a request decodes by the words that its row lists. -/
theorem decodeInvertsEncode : Obligations.DecodeInvertsEncode := fun i =>
  ⟨decode_encode i, fun _ => ⟨carriesWords_of_decode, decode_of_carriesWords⟩⟩

end Sys2Proof.Machine
end

section
/-! Register access that hands a value on (spec/40_register_access.md R77 to R83, R87, R88, R93): the reads of DR and ICR,
and a control register read after it was written. -/
namespace Sys2Proof.Machine

section
variable {s : State}

/-- A read of DR is the one read that needs SEQ to run no command (R76). -/
theorem exec_rdDr_of_idle (hclk : s.clk = true) (hidle : s.seq.op = .none) : exec .rdDr s = .next (popDr s) := by
  simp only [exec, execRdDr, busRead, (busGuard_none_iff 0x108 s).mpr ⟨hclk, .inl hidle⟩]

theorem popDr_of_cons {e : Entry} {rest : List Entry} (hrx : s.rxFifo = e :: rest) :
    popDr s = (s.setRxFifo rest).setRdata (e.setWidth 32) := by
  simp only [popDr, hrx]

theorem popDr_of_nil (hrx : s.rxFifo = []) :
    popDr s = s.drawn.setRdata ((Config.freeDr s.env.draws).setWidth 32) := by
  simp only [popDr, hrx]

end

/-- Settles O11: DR is popped or drawn for by the state of RXFIFO, and ICR is always drawn for. -/
theorem readsOfDataAndInterruptClear : Obligations.ReadsOfDataAndInterruptClear := by
  refine fun s => ⟨fun hclk hidle => ⟨fun e rest hrx => ?_, fun hrx => ⟨Config.freeDr s.env.draws, ?_⟩⟩,
    fun hclk => ⟨Config.freeIcr s.env.draws, ?_⟩, busStops_of_encode (i := .rdDr) rfl s,
    busStops_of_encode (i := .rdIcr) rfl s⟩
  · rw [exec_rdDr_of_idle hclk hidle, popDr_of_cons hrx]; rfl
  · rw [exec_rdDr_of_idle hclk hidle, popDr_of_nil hrx]; rfl
  · exact congrArg Host.Outcome.next (busRead_of_clocked (rule := drawIcr) hclk (by decide))

/-! ### Reading back what was written -/

/-- The low `n` bits of a word, as a register that stores them reads. -/
theorem setWidth_extractLsb'_zero (w : Word) (n : Nat) :
    (w.extractLsb' 0 n).setWidth 32 = w &&& (BitVec.allOnes n).setWidth 32 := by
  ext i hi
  simp [Bool.and_comm, BitVec.getLsbD_eq_getElem hi]

/-- CPSR stores bits 7:1 only (10_state.md R23). -/
theorem setWidth_cpsr_field (w : Word) : (w.extractLsb' 1 7 ++ 0#1).setWidth 32 = w &&& 0x000000FE := by
  have hmask : ∀ i < 32, (0x000000FE : Word).getLsbD i = decide (1 ≤ i ∧ i < 8) := by decide
  refine BitVec.eq_of_getLsbD_eq fun i hi => ?_
  rw [BitVec.getLsbD_and, hmask i hi, BitVec.getLsbD_setWidth, BitVec.getLsbD_append]
  rcases i with _ | i
  · simp
  · simp [hi, Nat.add_comm 1 i, Bool.and_comm, show i + 1 < 8 ↔ i < 7 by omega]

section
variable {write read : Instr} {b b' : BitVec 9} {w v : Word} {own : Option Stop} {rule : State → State}
  {f : State → Word} {s : State}

/-- A write that is let through and leaves the clock on can be followed by a read of its register. -/
theorem exec_write_then_read (hwrite : exec write s = .next (busWrite b w own rule s))
    (hread : ∀ t, exec read t = .next (busRead b' (fun t => t.setRdata (f t)) t)) (hclk : s.clk = true)
    (hidle : s.seq.op = .none) (hown : own = none) (hrule : ∀ t, (rule t).clk = t.clk) (hvalue : ∀ t, f (rule t) = v)
    (hb : ¬ (selWrite b' = true ∨ b' = 0x108)) :
    ∃ t u, exec write s = .next t ∧ exec read t = .next u ∧ u.rdata = v :=
  ⟨_, _, exec_write hwrite hclk hidle hown, exec_read (hread _) ((hrule _).trans hclk) hb, hvalue _⟩

end

/-- Settles O18: each register stores the field bits of WDATA and reads them with 0 elsewhere. -/
theorem writeThenReadKeepsFieldBits : Obligations.WriteThenReadKeepsFieldBits := by
  intro s w hclk hidle
  refine ⟨?_, fun hkeep => ?_, ?_, ?_⟩
  · exact exec_write_then_read (b := 0x140) (b' := 0x100) (rule := fun t => t.writeCr0 w) (f := State.readCr0)
      rfl (fun _ => rfl) hclk hidle rfl (fun _ => rfl) (fun _ => setWidth_extractLsb'_zero w 16) (by decide)
  · exact exec_write_then_read (b := 0x144) (b' := 0x104) (rule := fun t => t.writeCr1 w) (f := State.readCr1)
      rfl (fun _ => rfl) hclk hidle (if_neg hkeep) (fun _ => rfl) (fun _ => setWidth_extractLsb'_zero w 4) (by decide)
  · exact exec_write_then_read (b := 0x150) (b' := 0x110) (rule := fun t => t.writeCpsr w) (f := State.readCpsr)
      rfl (fun _ => rfl) hclk hidle rfl (fun _ => rfl) (fun _ => setWidth_cpsr_field w) (by decide)
  · exact exec_write_then_read (b := 0x154) (b' := 0x114) (rule := fun t => t.writeImsc w) (f := State.readImsc)
      rfl (fun _ => rfl) hclk hidle rfl (fun _ => rfl) (fun _ => setWidth_extractLsb'_zero w 4) (by decide)

/-! ### CONFIGURE -/

/-- Settles O21: past the checks of R71, CONFIGURE's own check is that SEQ runs no command. -/
theorem configureStartsCheck : Obligations.ConfigureStartsCheck := by
  refine fun k cfg s hk => ⟨fun hclk hfree hres => ⟨fun hidle => ?_, fun hrun => ?_⟩, commandStops_configure hk⟩
  · have hown : seqBusyCheck (.configureDuringTransfer k) s = none := if_pos hidle
    rw [exec, execConfigure, hown]
    exact command_of_issue hk (cmdGuard_of_clear 1 hclk hfree hres) _
  · have hown : seqBusyCheck (.configureDuringTransfer k) s = some (.fault (.configureDuringTransfer k)) := if_neg hrun
    rw [exec, execConfigure, hown]
    exact command_of_own hk (cmdGuard_of_clear 1 hclk hfree hres) _

end Sys2Proof.Machine
end

section
/-! RESOLVE in closed form (spec/41_clock_resolver.md R102, R105): for each prescaler the least scr that satisfies the
bound is a quotient, which the scan finds where it is below 256. -/
namespace Sys2Proof.Machine

/-- The bound on scr, for one prescaler. -/
theorem legalPair.meetsBound_iff_div_le {p f a b : Nat} (h : legalPair a b) :
    meetsBound p f a b ↔ p / (a * (f + 1)) ≤ b := by
  have hpos : 0 < a * (f + 1) := Nat.mul_pos (by have := h.2.1; omega) f.succ_pos
  have hcomm : divisor a b * (f + 1) = (b + 1) * (a * (f + 1)) := by rw [divisor]; ring
  rw [h.meetsBound_iff, hcomm, ← Nat.div_lt_iff_lt_mul hpos, Nat.lt_succ_iff]

/-- When some legal pair satisfies the bound, RESOLVE answers the first prescaler whose quotient is a value of scr, and
that quotient. -/
theorem resolve_eq_div {p f : Nat} (h : p < 65024 * (f + 1)) :
    ∃ a, a % 2 = 0 ∧ 2 ≤ a ∧ a ≤ 254 ∧ p / (a * (f + 1)) ≤ 255 ∧ resolve p f = (a, p / (a * (f + 1))) ∧
      ∀ b, b % 2 = 0 → 2 ≤ b → b < a → 255 < p / (b * (f + 1)) := by
  obtain ⟨a, b, hres, hlegal, hmeets, hfirst⟩ | ⟨-, hnone⟩ := resolve_cases p f
  · have ⟨heven, hlow, hhigh, hscr⟩ := hlegal
    have hle : p / (a * (f + 1)) ≤ b := hlegal.meetsBound_iff_div_le.mp hmeets
    have hlegal' : legalPair a (p / (a * (f + 1))) := ⟨heven, hlow, hhigh, hle.trans hscr⟩
    have heq : b = p / (a * (f + 1)) := by
      by_contra hne
      exact hfirst _ _ hlegal' (.inr ⟨rfl, by omega⟩) (hlegal'.meetsBound_iff_div_le.mpr le_rfl)
    refine ⟨a, heven, hlow, hhigh, hle.trans hscr, heq ▸ hres, fun c hc hc2 hca => ?_⟩
    have hlegalc : legalPair c 255 := ⟨hc, hc2, by omega, le_rfl⟩
    exact Nat.lt_of_not_le (mt hlegalc.meetsBound_iff_div_le.mpr (hfirst c 255 hlegalc (.inl hca)))
  · exact absurd (no_legalPair_meetsBound_iff.mp hnone) (Nat.not_le.mpr h)

/-- Settles O39: the first case is the closed form, and past its range no legal pair satisfies the bound. -/
theorem resolverClosedForm : Obligations.ResolverClosedForm := fun _ _ =>
  ⟨resolve_eq_div, fun h => resolve_eq_fallback_of_none (no_legalPair_meetsBound_iff.mpr h)⟩

/-- While the quotient of prescaler 2 is a value of scr, the scan does not get past that prescaler. -/
theorem resolve_eq_prescaler_two {p f : Nat} (h : p < 512 * (f + 1)) : resolve p f = (2, p / (2 * (f + 1))) := by
  obtain ⟨a, -, hlow, -, -, hres, hfirst⟩ := resolve_eq_div (p := p) (f := f) (by omega)
  have hquot : p / (2 * (f + 1)) < 256 := (Nat.div_lt_iff_lt_mul (by omega)).mpr (by omega)
  have ha : a = 2 := by
    by_contra hne
    have := hfirst 2 rfl le_rfl (by omega)
    omega
  rw [hres, ha]

/-- Settles O40: a legal prescaler is even, so a divisor that satisfies the bound is twice a number above the quotient. -/
theorem resolverMinimalWithPrescalerTwo : Obligations.ResolverMinimalWithPrescalerTwo := by
  intro p f hp
  rw [resolve_eq_prescaler_two hp]
  refine ⟨rfl, fun a b hlegal hmeets => ?_⟩
  obtain ⟨c, rfl⟩ : ∃ c, a = 2 * c := ⟨a / 2, by have := hlegal.1; omega⟩
  have hlt : p < c * (b + 1) * (2 * (f + 1)) := by
    have hbound := hlegal.meetsBound_iff.mp hmeets
    have hcomm : divisor (2 * c) b * (f + 1) = c * (b + 1) * (2 * (f + 1)) := by rw [divisor]; ring
    rwa [hcomm] at hbound
  have hquot : p / (2 * (f + 1)) < c * (b + 1) := (Nat.div_lt_iff_lt_mul (by omega)).mpr hlt
  calc divisor 2 (p / (2 * (f + 1))) = 2 * (p / (2 * (f + 1)) + 1) := rfl
    _ ≤ 2 * (c * (b + 1)) := Nat.mul_le_mul_left 2 hquot
    _ = divisor (2 * c) b := (Nat.mul_assoc 2 c (b + 1)).symm

end Sys2Proof.Machine
end

section
/-! Everything a turn can do, case by case with what made it happen: SEQ's state step (SeqEffect) and the turn of any agent
(AgentEffect). The invariants of the controller are read off from these, with ExecEffect for what a request does
(spec/45_controller_sequencer.md R139, R154). -/
namespace Sys2Proof.Machine

/-! ### SEQ's state step -/

/-- The next states of SEQ's state step. -/
inductive SeqEffect (s : State) : State → Prop where
  /-- Nothing to do in IDLE, or not yet in WAIT_BUSY. -/
  | stay (state : s.seq.state = .idle ∨ s.seq.state = .waitBusy) : SeqEffect s s
  | waited (state : s.seq.state = .waitBusy) (quiet : s.ser.busy = false ∧ s.txFifo = []) : SeqEffect s (s.goto .flush)
  | discard {e : Entry} {rest : List Entry} (state : s.seq.state = .flush) (rx : s.rxFifo = e :: rest) :
      SeqEffect s (s.setRxFifo rest)
  | flushed (state : s.seq.state = .flush) (rx : s.rxFifo = []) : SeqEffect s (s.goto .check)
  | rejected (state : s.seq.state = .check) : SeqEffect s (s.goto .failed)
  /-- The candidate was built: a cache miss or a hit. -/
  | checked (q : SeqState) (state : s.seq.state = .check) (next : q = .writeCr0 ∨ q = afterConfig s.seq.op) :
      SeqEffect s ((s.setSeq { s.seq with cand := candidate s.par.pClkHz s.seq.cfg }).goto q)
  | writeCr0 (state : s.seq.state = .writeCr0) : SeqEffect s (writeCr0Step s)
  /-- A frame is in progress. -/
  | midFrame (f : Fault) (state : s.seq.state = .writeCr1) : SeqEffect s (s.halt (.fault f))
  | writeCr1 (state : s.seq.state = .writeCr1) :
      SeqEffect s (((s.writeCr1 s.seq.cand.cr1).emit (.regw .seq 0x04 s.seq.cand.cr1)).goto .writeCpsr)
  | writeCpsr (state : s.seq.state = .writeCpsr) : SeqEffect s (writeCpsrStep s)
  | select (state : s.seq.state = .select) : SeqEffect s (selectStep s)
  | enable (state : s.seq.state = .enable) : SeqEffect s (enableStep s)
  | push (state : s.seq.state = .fill) (ready : fillReady s = true) : SeqEffect s ((pushUnit s).goto .drain)
  | noPush (state : s.seq.state = .fill) : SeqEffect s (s.goto .drain)
  /-- A unit was popped, and its byte stored at its address or discarded. -/
  | pop {e : Entry} {rest : List Entry} (m : List Host.Cell) (state : s.seq.state = .drain) (rx : s.rxFifo = e :: rest)
      (mem : m = s.mem ∨ ∃ a, bufAddr s.seq.rx s.seq.popped.toNat = some a ∧ m = memPut s.mem a.toNat (e.setWidth 8)) :
      SeqEffect s (((s.setRxFifo rest).setMem m).setSeq { s.seq with popped := s.seq.popped + 1 })
  /-- Every unit was pushed and popped. -/
  | pumped (state : s.seq.state = .drain) (rx : s.rxFifo = [])
      (cursors : s.seq.pushed = s.seq.n ∧ s.seq.popped = s.seq.n) : SeqEffect s (s.goto .deselect)
  | more (state : s.seq.state = .drain) (rx : s.rxFifo = []) : SeqEffect s (s.goto .fill)
  | deselect (state : s.seq.state = .deselect) : SeqEffect s (deselectStep s)
  | finish (code : ResultCode) (state : s.seq.state = .failed ∨ s.seq.state = .finish) :
      SeqEffect s (endCommand code s)

section
variable {s : State}

theorem waitBusyStep_effect (h : s.seq.state = .waitBusy) : SeqEffect s (waitBusyStep s) := by
  by_cases hbusy : s.bsy = true
  · rw [waitBusyStep_of_bsy hbusy]
    exact .stay (.inr h)
  · rw [waitBusyStep_of_not_bsy hbusy]
    exact .waited h ((State.not_bsy_iff s).mp hbusy)

theorem flushStep_effect (h : s.seq.state = .flush) : SeqEffect s (flushStep s) := by
  cases hrx : s.rxFifo with
  | nil => rw [flushStep_of_nil hrx]; exact .flushed h hrx
  | cons e rest => rw [flushStep_of_cons hrx]; exact .discard h hrx

theorem checkStep_effect (h : s.seq.state = .check) : SeqEffect s (checkStep s) := by
  unfold checkStep
  dsimp only
  split
  · exact .rejected h
  · split
    · exact .checked _ h (.inr rfl)
    · exact .checked _ h (.inl rfl)

theorem writeCr1Step_effect (h : s.seq.state = .writeCr1) : SeqEffect s (writeCr1Step s) := by
  unfold writeCr1Step
  split
  · exact .midFrame _ h
  · exact .writeCr1 h

theorem fillStep_effect (h : s.seq.state = .fill) : SeqEffect s (fillStep s) := by
  by_cases hready : fillReady s = true
  · rw [fillStep_of_ready hready]; exact .push h hready
  · rw [fillStep_of_not_ready hready]; exact .noPush h

theorem drainStep_effect (h : s.seq.state = .drain) : SeqEffect s (drainStep s) := by
  cases hrx : s.rxFifo with
  | nil =>
    rw [drainStep_empty hrx]
    split
    · exact .pumped h hrx ‹_›
    · exact .more h hrx
  | cons e rest =>
    rw [drainStep_of_cons hrx]
    obtain ⟨a, -, ha, hstore⟩ | ⟨-, hstore⟩ := rxStore_cases (s.setRxFifo rest) s.seq.popped (e.setWidth 8)
    · rw [hstore]; exact .pop _ h hrx (.inr ⟨a, ha, rfl⟩)
    · rw [hstore]; exact .pop _ h hrx (.inl rfl)

end

/-- SEQ's state step, by its state. -/
theorem seqStep_effect (s : State) : SeqEffect s (seqStep s) := by
  unfold seqStep
  cases h : s.seq.state with
  | idle => exact .stay (.inl h)
  | waitBusy => exact waitBusyStep_effect h
  | flush => exact flushStep_effect h
  | check => exact checkStep_effect h
  | failed => exact .finish .unsupportedConfig (.inl h)
  | writeCr0 => exact .writeCr0 h
  | writeCr1 => exact writeCr1Step_effect h
  | writeCpsr => exact .writeCpsr h
  | select => exact .select h
  | enable => exact .enable h
  | fill => exact fillStep_effect h
  | drain => exact drainStep_effect h
  | deselect => exact .deselect h
  | finish => exact .finish .ok (.inr h)

/-! ### The turn of any agent -/

/-- The FRAME event of the frame in progress, which receives `miso` (44_pump_engine.md R135). -/
def State.frameEvent (s : State) (miso : Byte) : Event :=
  .frame s.ser.shift miso s.ser.latched.cr0 s.ser.latched.cr1 s.ser.latched.cpsr

/-- The next states of a turn. -/
inductive AgentEffect (s : State) : Turn → State → Prop where
  | request (u : Turn) {t : State} (effect : ExecEffect s t) : AgentEffect s u t
  /-- The step was not enabled. -/
  | wait (u : Turn) : AgentEffect s u s
  | halt (u : Turn) (stop : Stop) : AgentEffect s u (s.halt stop)
  | release (k : Nat) (slot : s.slot k = .relWait) : AgentEffect s (.relWait k) (s.freeLock.finish k .ok)
  | acquire (k : Nat) (cfg : CfgWord) (tx rx : BufSet) (lock : s.lock = .free) (slot : s.slot k = .waitLock cfg tx rx)
      (idle : s.seq.op = .none) : AgentEffect s (.acquire k) (startTransfer s k cfg tx rx)
  | seq {t : State} (effect : SeqEffect s t) : AgentEffect s .seq t
  | frameStart {e : Entry} {rest : List Entry} (tx : s.txFifo = e :: rest) (idle : s.ser.busy = false) :
      AgentEffect s .frameStart
        ((s.setTxFifo rest).setSer { busy := true, shift := e.setWidth 8, latched := s.liveImage })
  | received (dataIn : Byte) (busy : s.ser.busy = true) (room : s.rxFifo.length < s.par.fifoDepth) :
      AgentEffect s (.frameDone dataIn)
        (((s.emit (s.frameEvent (frameMiso s dataIn))).pushRx ((frameMiso s dataIn).setWidth 16)).setSer
          { s.ser with busy := false })
  | overrun (dataIn : Byte) (busy : s.ser.busy = true) (full : s.par.fifoDepth ≤ s.rxFifo.length) :
      AgentEffect s (.frameDone dataIn)
        ((((s.emit (s.frameEvent (frameMiso s dataIn))).setRorris true).emit (.overrun (frameMiso s dataIn))).setSer
          { s.ser with busy := false })
  | timeout (u : Turn) (b : Bool) : AgentEffect s u (s.setRtris b)
  | memWrite (a : Addr) (v : Byte) (free : s.inUse a = false) : AgentEffect s (.memWrite a v) (s.memWrite a v)

theorem relWaitStep_effect (k : Nat) (s : State) : AgentEffect s (.relWait k) (relWaitStep k s) := by
  by_cases hslot : s.slot k = .relWait
  · by_cases hbusy : s.bsy = true
    · rw [relWaitStep_of_bsy hslot hbusy]; exact .wait _
    · rw [relWaitStep_of_not_bsy hslot hbusy]; exact .release k hslot
  · rw [relWaitStep_of_not_enabled hslot]; exact .wait _

theorem acquireStep_effect (k : Nat) (s : State) : AgentEffect s (.acquire k) (acquireStep k s) := by
  obtain ⟨cfg, tx, rx, hlock, hslot, hidle, h⟩ | ⟨-, -, h⟩ | h := acquireStep_cases k s
  · rw [h]; exact .acquire k cfg tx rx hlock hslot hidle
  · rw [h]; exact .halt _ _
  · rw [h]; exact .wait _

theorem frameStartStep_effect (s : State) : AgentEffect s .frameStart (frameStartStep s) := by
  by_cases henabled : s.frameStartEnabled
  · obtain ⟨hen, hframe⟩ := henabled
    obtain ⟨e, rest, htx⟩ := List.exists_cons_of_ne_nil hframe
    cases hformat : unmodelledFrame s.regs with
    | true => rw [frameStartStep_of_refused htx hen hformat]; exact .halt _ _
    | false =>
      rw [frameStartStep_of_legal htx hen hformat]
      exact .frameStart htx ((frameEnabled_iff s).mp hen).2.2
  · rw [frameStartStep_of_not_enabled henabled]; exact .wait _

theorem frameDoneStep_effect (dataIn : Byte) (s : State) :
    AgentEffect s (.frameDone dataIn) (frameDoneStep dataIn s) := by
  unfold frameDoneStep receive
  dsimp only
  split
  · split
    · exact .received dataIn ‹_› ‹_›
    · exact .overrun dataIn ‹_› (Nat.not_lt.mp ‹_›)
  · exact .wait _

/-- Every turn has one of these effects. -/
theorem TurnEffect.agentEffect {s t : State} {u : Turn} (h : TurnEffect s u t) : AgentEffect s u t := by
  cases h with
  | host r effect => exact .request _ effect
  | client k c effect => exact .request _ effect
  | relWait k => exact relWaitStep_effect k s
  | acquire k => exact acquireStep_effect k s
  | seq => exact .seq (seqStep_effect s)
  | frameStart => exact frameStartStep_effect s
  | frameDone miso => exact frameDoneStep_effect miso s
  | timeoutSet => unfold timeoutSetStep; split; exacts [.timeout _ true, .wait _]
  | timeoutClear => unfold timeoutClearStep; split; exacts [.timeout _ false, .wait _]
  | memWrite a v =>
    unfold memWriteStep
    split
    · exact .wait _
    · rename_i hfree
      exact .memWrite a v (eq_false_of_ne_true hfree)

/-- Every step has one of these effects; choosing the turn changes the schedule only. -/
theorem step_agentEffect {s t : State} (h : step s = .next t) : ∃ e, AgentEffect (s.setEnv e) s.nextTurn t := by
  obtain ⟨-, -, hrun⟩ := step_next h
  obtain ⟨e, he⟩ := turnTaken_env s
  exact ⟨e, (runTurn_effect (he ▸ hrun)).agentEffect⟩

end Sys2Proof.Machine
end

section
/-! The stops and system memory: which turns set FAULT or REFUSED, and which write memory (spec/60_exceptions.md R156, R158,
spec/20_memory.md R46, R56, R58). -/
namespace Sys2Proof.Machine

/-! ### Faults and refusals -/

section
variable {s t : State} {u : Turn}

theorem ExecEffect.stop_cases (h : ExecEffect s t) :
    (∃ stop, t = s.halt stop) ∨ (t.fault = s.fault ∧ t.refused = s.refused) := by
  cases h with
  | halt stop => exact .inl ⟨stop, rfl⟩
  | _ => exact .inr ⟨rfl, rfl⟩

theorem SeqEffect.stop_cases (h : SeqEffect s t) :
    (∃ stop, t = s.halt stop) ∨ (t.fault = s.fault ∧ t.refused = s.refused) := by
  cases h with
  | midFrame f => exact .inl ⟨_, rfl⟩
  | finish code => exact .inr (by rw [endCommand_eq]; exact ⟨rfl, rfl⟩)
  | _ => exact .inr ⟨rfl, rfl⟩

/-- A turn stops and does nothing else, or leaves both marks alone. -/
theorem AgentEffect.stop_cases (h : AgentEffect s u t) :
    (∃ stop, t = s.halt stop) ∨ (t.fault = s.fault ∧ t.refused = s.refused) := by
  cases h with
  | request _ effect => exact effect.stop_cases
  | seq effect => exact effect.stop_cases
  | halt _ stop => exact .inl ⟨stop, rfl⟩
  | _ => exact .inr ⟨rfl, rfl⟩

end

theorem turnTaken_fault (s : State) : s.turnTaken.fault = s.fault := by
  obtain ⟨e, he⟩ := turnTaken_env s
  rw [he]; rfl

theorem turnTaken_refused (s : State) : s.turnTaken.refused = s.refused := by
  obtain ⟨e, he⟩ := turnTaken_env s
  rw [he]; rfl

/-- A step to a state with FAULT set records that fault and nothing else. -/
theorem step_of_fault_set {s t : State} {f : Fault} (h : step s = .next t) (hf : t.fault = some f) :
    t = s.turnTaken.halt (.fault f) := by
  obtain ⟨hfault, -, hrun⟩ := step_next h
  have hnone : s.turnTaken.fault = none := (turnTaken_fault s).trans hfault
  obtain ⟨stop, rfl⟩ | ⟨hsame, -⟩ := (runTurn_effect hrun).agentEffect.stop_cases
  · cases stop with
    | fault g => cases hf; rfl
    | refusal r => exact absurd (hnone.symm.trans hf) nofun
  · exact absurd ((hsame.trans hnone).symm.trans hf) nofun

/-- A step to a state with REFUSED set records that refusal and nothing else. -/
theorem step_of_refused_set {s t : State} {r : Refusal} (h : step s = .next t) (hr : t.refused = some r) :
    t = s.turnTaken.halt (.refusal r) := by
  obtain ⟨-, hrefused, hrun⟩ := step_next h
  have hnone : s.turnTaken.refused = none := (turnTaken_refused s).trans hrefused
  obtain ⟨stop, rfl⟩ | ⟨-, hsame⟩ := (runTurn_effect hrun).agentEffect.stop_cases
  · cases stop with
    | fault f => exact absurd (hnone.symm.trans hr) nofun
    | refusal q => cases hr; rfl
  · exact absurd ((hsame.trans hnone).symm.trans hr) nofun

/-- Settles O6: a mark comes from a stop, which does nothing else, and a state with a mark has no next state. -/
theorem stopsArePreciseAndFinal : Obligations.StopsArePreciseAndFinal := by
  refine ⟨fun s t f => step_of_fault_set, fun s t r => step_of_refused_set, fun s f hf => ?_, fun s r hf hr => ?_⟩
  · simp only [step, State.halted, hf]
  · simp only [step, State.halted, hf, hr]

/-! ### System memory -/

section
variable {s t : State} {u : Turn}

theorem State.halt_mem (s : State) (stop : Stop) : (s.halt stop).mem = s.mem := by
  cases stop <;> rfl

theorem ExecEffect.mem_eq (h : ExecEffect s t) : t.mem = s.mem := by
  cases h with
  | halt stop => exact s.halt_mem stop
  | _ => rfl

/-- Of SEQ's state steps only DRAIN writes memory, at the address of the unit popped (20_memory.md R56). -/
theorem SeqEffect.mem_cases (h : SeqEffect s t) :
    t.mem = s.mem ∨
      ∃ a v, t.mem = memPut s.mem a.toNat v ∧ s.seq.state = .drain ∧
        bufAddr s.seq.rx s.seq.popped.toNat = some a := by
  cases h with
  | pop m hstate hrx hmem => exact hmem.imp id fun ⟨a, ha, hm⟩ => ⟨a, _, hm, hstate, ha⟩
  | finish code => left; rw [endCommand_eq]
  | _ => exact .inl rfl

/-- The writers of system memory. -/
theorem AgentEffect.mem_cases (h : AgentEffect s u t) :
    t.mem = s.mem ∨
      ∃ a v, t.mem = memPut s.mem a.toNat v ∧
        ((u = .seq ∧ s.seq.state = .drain ∧ bufAddr s.seq.rx s.seq.popped.toNat = some a) ∨
          (u = .memWrite a v ∧ s.inUse a = false)) := by
  cases h with
  | request _ effect => exact .inl effect.mem_eq
  | seq effect => exact effect.mem_cases.imp id fun ⟨a, v, hm, hstate, ha⟩ => ⟨a, v, hm, .inl ⟨rfl, hstate, ha⟩⟩
  | halt _ stop => exact .inl (s.halt_mem stop)
  | memWrite a v hfree => exact .inr ⟨a, v, rfl, .inr ⟨rfl, hfree⟩⟩
  | _ => exact .inl rfl

end

/-- Settles O43: every write of memory is a byte write, which keeps the form. -/
theorem stepKeepsMemoryCanonical : Obligations.StepKeepsMemoryCanonical := by
  intro s t hs hstep
  refine step_keeps (Inv := State.memCanonical) (fun _ _ h => h) (fun u s t hs h => ?_) hs hstep
  obtain hmem | ⟨a, v, hmem, -⟩ := h.agentEffect.mem_cases
  · rwa [State.memCanonical, hmem]
  · rw [State.memCanonical, hmem]
    exact memPut_wf a.toNat v a.isLt hs

/-- Settles O57: a byte that reads otherwise afterwards is the one that was written. -/
theorem memoryWriters : Obligations.MemoryWriters := by
  intro s t hs hstep b hne
  obtain ⟨e, heffect⟩ := step_agentEffect hstep
  obtain hmem | ⟨a, v, hmem, hwriter⟩ := heffect.mem_cases
  · exact absurd (by rw [State.memRead, hmem]; rfl) hne
  · have hba : b = a := by
      by_contra hother
      refine hne ?_
      rw [State.memRead, hmem]
      exact memRead_memWrite_other s v hs hother
    subst hba
    exact hwriter.imp id fun ⟨hturn, hfree⟩ => ⟨v, hturn, hfree⟩

end Sys2Proof.Machine
end

section
/-! The invariants about the FIFOs, the command slots and the clock, each kept by every turn (spec/10_state.md R29, R30,
spec/43_transfer_context.md R118 to R123, spec/60_exceptions.md R170). -/
namespace Sys2Proof.Machine

/-! ### The FIFOs -/

section
variable {s t : State} {u : Turn}

theorem State.fifosBounded.of_execEffect (hs : s.fifosBounded) (h : ExecEffect s t) : t.fifosBounded := by
  obtain ⟨htx, hrx⟩ := hs
  cases h with
  | halt stop => cases stop <;> exact ⟨htx, hrx⟩
  | readPop e rest _ _ hcons =>
    rw [hcons] at hrx
    exact ⟨htx, Nat.le_of_succ_le hrx⟩
  | push w _ _ hroom => exact ⟨by simpa using hroom, hrx⟩
  | _ => exact ⟨htx, hrx⟩

theorem State.fifosBounded.of_seqEffect (hs : s.fifosBounded) (h : SeqEffect s t) : t.fifosBounded := by
  obtain ⟨htx, hrx⟩ := hs
  cases h with
  | discard _ hcons | pop _ _ hcons =>
    rw [hcons] at hrx
    exact ⟨htx, Nat.le_of_succ_le hrx⟩
  | push _ hready =>
    obtain ⟨-, hroom, -, -⟩ := (fillReady_iff s).mp hready
    exact ⟨by simpa [pushUnit] using hroom, hrx⟩
  | finish code => rw [endCommand_eq]; exact ⟨htx, hrx⟩
  | _ => exact ⟨htx, hrx⟩

theorem State.fifosBounded.of_agentEffect (hs : s.fifosBounded) (h : AgentEffect s u t) : t.fifosBounded := by
  cases h with
  | request _ effect => exact hs.of_execEffect effect
  | seq effect => exact hs.of_seqEffect effect
  | halt _ stop => cases stop <;> exact hs
  | frameStart hcons =>
    obtain ⟨htx, hrx⟩ := hs
    rw [hcons] at htx
    exact ⟨Nat.le_of_succ_le htx, hrx⟩
  | received _ _ hroom => exact ⟨hs.1, by simpa using hroom⟩
  | _ => exact hs

end

/-- Settles O44: a FIFO grows only by a push, and every push has looked for room. -/
theorem stepKeepsFifosBounded : Obligations.StepKeepsFifosBounded := fun _ _ =>
  step_keeps (fun _ _ hs => hs) fun _ _ _ hs h => hs.of_agentEffect h.agentEffect

/-! ### The clock -/

section
variable {s t : State} {u : Turn}

/-- With the clock off a request records a stop, unless it is INIT, which turns the clock on (R170). -/
theorem ExecEffect.of_unclocked (h : ExecEffect s t) (hclk : t.clk = false) : ∃ stop, t = s.halt stop := by
  cases h with
  | halt stop => exact ⟨stop, rfl⟩
  | init => exact Bool.noConfusion hclk
  | read _ hon | readFree _ hon | readPop _ _ hon | write _ _ _ hon | push _ hon | configure _ _ _ _ hon
  | transceive _ _ _ _ _ _ hon | release _ _ _ hon | async _ _ _ hon => exact Bool.noConfusion (hon.symm.trans hclk)

theorem State.slot_of_all_empty (h : ∀ x ∈ s.slots, x = .empty) (k : Nat) : s.slot k = .empty := by
  cases hk : s.slots[k]? with
  | none => simp [State.slot, hk]
  | some x => simp [State.slot, hk, h x (List.mem_of_getElem? hk)]

theorem State.untouchedUnlessClocked.of_request (hs : s.untouchedUnlessClocked) (h : ExecEffect s t) :
    t.untouchedUnlessClocked := by
  intro hclk
  obtain ⟨stop, rfl⟩ := h.of_unclocked hclk
  cases stop <;> exact hs hclk

/-- As reset left it, the controller has no step enabled but the draw that clears RTRIS, which changes nothing: no
client waits or polls, SEQ is in IDLE, both FIFOs are empty and no frame is in progress. -/
theorem State.untouchedUnlessClocked.of_turnEffect (hs : s.untouchedUnlessClocked) (hoff : s.clk = false)
    (h : TurnEffect s u t) : t.untouchedUnlessClocked := by
  obtain ⟨hregs, htx, hrx, hser, hseq, -, -, -, -, hslots⟩ := hs hoff
  have hslot (k : Nat) : s.slot k = .empty := State.slot_of_all_empty hslots k
  have hbusy : s.ser.busy = false := by rw [hser]; rfl
  have hidle : s.seq.state = .idle := by rw [hseq]; rfl
  cases h with
  | host _ effect | client _ _ effect => exact hs.of_request effect
  | relWait k => rwa [relWaitStep_of_not_enabled (by simp [hslot])]
  | acquire k => rwa [acquireStep_of_not_enabled (.inr (by simp [hslot]))]
  | seq => rwa [show seqStep s = s by simp only [seqStep, hidle]]
  | frameStart => rwa [frameStartStep_of_not_enabled fun henabled => henabled.2 htx]
  | frameDone => rwa [show frameDoneStep _ s = s from if_neg (by simp [hbusy])]
  | timeoutSet => rwa [show timeoutSetStep s = s from if_neg (by simp [hrx])]
  | timeoutClear =>
    have hclear : { s.regs with rtris := false } = s.regs := by rw [hregs]; rfl
    rw [timeoutClearStep, if_pos (by simp [hrx]), State.setRtris, hclear]
    exact hs
  | memWrite a v => unfold memWriteStep; split <;> exact hs

end

/-- Settles O45: no step turns the clock off, so it was off before the step, which then leaves everything as it was. -/
theorem stepKeepsUnclockedUntouched : Obligations.StepKeepsUnclockedUntouched := by
  intro s t hs hstep hclk
  obtain ⟨-, hon, -⟩ := cacheClockTraceAndParameterWriters s t hstep
  have hoff : s.clk = false := Bool.eq_false_iff.mpr fun h => Bool.noConfusion (hclk.symm.trans (hon h))
  obtain ⟨-, -, hrun⟩ := step_next hstep
  obtain ⟨e, he⟩ := turnTaken_env s
  have hs' : (s.setEnv e).untouchedUnlessClocked := hs
  exact hs'.of_turnEffect hoff (runTurn_effect (he ▸ hrun)) hclk

end Sys2Proof.Machine
end

section
/-! The invariants about which command runs: the buffer sets of the clients that wait, the client whose command SEQ runs, and
the states SEQ may be in (spec/43_transfer_context.md R118 to R123, spec/45_controller_sequencer.md R139). -/
namespace Sys2Proof.Machine

/-! ### Writing a slot -/

section
variable {s t : State} {u : Turn}

/-- After a slot was written, it holds what was written if its client exists, and every other slot what it did. -/
theorem State.slot_of_set {k : Nat} {v : Slot} (h : t.slots = s.slots.set k v) (j : Nat) :
    ((j = k → s.nClients ≤ k) ∧ t.slot j = s.slot j) ∨ (j = k ∧ t.slot j = v) := by
  by_cases hj : j = k
  · subst hj
    by_cases hlt : j < s.slots.length
    · exact .inr ⟨rfl, by rw [State.slot, h, List.getElem?_set_self hlt]; rfl⟩
    · have hle : s.slots.length ≤ j := Nat.not_lt.mp hlt
      exact .inl ⟨fun _ => hle, by rw [State.slot, h, List.set_eq_of_length_le hle]; rfl⟩
  · exact .inl ⟨fun h => absurd h hj, by rw [State.slot, h, List.getElem?_set_ne (Ne.symm hj)]; rfl⟩

theorem State.halt_slots (s : State) (stop : Stop) : (s.halt stop).slots = s.slots := by
  cases stop <;> rfl

/-! ### Clients that wait for the lock -/

/-- Only TRANSCEIVE makes a client wait, with buffer sets that it has measured (45_controller_sequencer.md R148). -/
theorem ExecEffect.slots_cases (h : ExecEffect s t) :
    t.slots = s.slots ∨ ∃ k v, t.slots = s.slots.set k v ∧
      ∀ cfg tx rx, v = .waitLock cfg tx rx → bufLen tx < 2 ^ 32 ∧ bufLen rx < 2 ^ 32 := by
  cases h with
  | halt stop => exact .inl (s.halt_slots stop)
  | read | readFree | readPop | write | push => exact .inl rfl
  | init k | configure k | release k | async k => exact .inr ⟨k, _, rfl, nofun⟩
  | transceive k cfg tx rx _ _ _ hshort =>
    refine .inr ⟨k, _, rfl, fun _ _ _ h => ?_⟩
    cases h
    exact hshort

theorem SeqEffect.slots_cases (h : SeqEffect s t) :
    t.slots = s.slots ∨ ∃ k code, t.slots = s.slots.set k (.done code) := by
  cases h with
  | finish code => rw [endCommand_eq]; exact .inr ⟨_, code, rfl⟩
  | _ => exact .inl rfl

theorem AgentEffect.slots_cases (h : AgentEffect s u t) :
    t.slots = s.slots ∨ ∃ k v, t.slots = s.slots.set k v ∧
      ∀ cfg tx rx, v = .waitLock cfg tx rx → bufLen tx < 2 ^ 32 ∧ bufLen rx < 2 ^ 32 := by
  cases h with
  | request _ effect => exact effect.slots_cases
  | seq effect => exact effect.slots_cases.imp id fun ⟨k, code, h⟩ => ⟨k, .done code, h, nofun⟩
  | halt _ stop => exact .inl (s.halt_slots stop)
  | release k => exact .inr ⟨k, .done .ok, rfl, nofun⟩
  | acquire k => exact .inr ⟨k, .running, rfl, nofun⟩
  | wait | frameStart | received | overrun | timeout | memWrite => exact .inl rfl

theorem State.waitersFit.of_agentEffect (hs : s.waitersFit) (h : AgentEffect s u t) : t.waitersFit := by
  intro k cfg tx rx hk
  obtain hsame | ⟨j, v, hset, hfits⟩ := h.slots_cases
  · exact hs k cfg tx rx (by rwa [State.slot, ← hsame])
  · obtain ⟨-, hold⟩ | ⟨-, hnew⟩ := State.slot_of_set hset k
    · exact hs k cfg tx rx (hold.symm.trans hk)
    · exact hfits cfg tx rx (hnew.symm.trans hk)

end

/-- Settles O51: a slot that is written to WAIT_LOCK is written with sets that fit. -/
theorem stepKeepsWaitersFit : Obligations.StepKeepsWaitersFit := fun _ _ =>
  step_keeps (fun _ _ hs => hs) fun _ _ _ hs h => hs.of_agentEffect h.agentEffect

/-! ### The states of SEQ -/

/-- The states of a CONFIGURE (42_config_cache.md R115). -/
def SeqState.ofConfigure : SeqState → Bool
  | .check | .failed | .writeCr0 | .writeCr1 | .writeCpsr | .finish => true
  | .idle | .waitBusy | .flush | .select | .enable | .fill | .drain | .deselect => false

theorem SeqState.ofConfigure_iff (q : SeqState) :
    q.ofConfigure = true ↔
      q = .check ∨ q = .failed ∨ q = .writeCr0 ∨ q = .writeCr1 ∨ q = .writeCpsr ∨ q = .finish := by
  cases q <;> simp [SeqState.ofConfigure]

namespace State.seqConsistent
variable {s t : State} {u : Turn} {q r : SeqState}

/-- The invariant reads SEQ and the number of clients only. -/
theorem of_seq (hs : s.seqConsistent) (hseq : t.seq = s.seq) (hclients : t.nClients = s.nClients) :
    t.seqConsistent := by
  rwa [State.seqConsistent, hseq, hclients]

/-- SEQ goes on with its command. -/
theorem goto (hs : s.seqConsistent) (hstate : s.seq.state ≠ .idle) (hr : r ≠ .idle)
    (hconfigure : s.seq.op = .configure → r.ofConfigure = true) : (s.goto r).seqConsistent := by
  obtain ⟨hidle, -, hclient⟩ := hs
  exact ⟨⟨fun hop => absurd (hidle.mp hop) hstate, fun h => absurd h hr⟩,
    fun hop => r.ofConfigure_iff.mp (hconfigure hop), hclient⟩

/-- A transition that keeps a CONFIGURE in its own states, whichever command takes it. -/
theorem move (hs : s.seqConsistent) (hstate : s.seq.state = q)
    (hmove : q ≠ .idle ∧ r ≠ .idle ∧ (q.ofConfigure = true → r.ofConfigure = true)) : (s.goto r).seqConsistent := by
  obtain ⟨hq, hr, hconfigure⟩ := hmove
  refine hs.goto (hstate ▸ hq) hr fun hop => hconfigure ?_
  rw [← hstate, SeqState.ofConfigure_iff]
  exact hs.2.1 hop

/-- The table of the sequencer's transitions (45_controller_sequencer.md R139). -/
theorem of_seqEffect (hs : s.seqConsistent) (h : SeqEffect s t) : t.seqConsistent := by
  cases h with
  | stay | discard | pop | midFrame => exact hs
  | waited h | flushed h | rejected h | writeCr0 h | writeCr1 h | select h | enable h | push h | noPush h | pumped h
  | more h | deselect h => exact hs.move h (by decide)
  | checked q h hnext =>
    refine hs.goto (by simp [h]) ?_ fun hop => ?_
    · obtain rfl | rfl := hnext
      exacts [by decide, afterConfig_ne_idle _]
    · obtain rfl | rfl := hnext
      exacts [rfl, by rw [hop]; rfl]
  | writeCpsr h => exact hs.goto (by simp [h]) (afterConfig_ne_idle _) fun hop => by rw [hop]; rfl
  | finish code =>
    rw [endCommand_eq]
    exact ⟨⟨fun _ => rfl, fun _ => rfl⟩, nofun, fun h => absurd rfl h⟩

theorem of_execEffect (hs : s.seqConsistent) (h : ExecEffect s t) : t.seqConsistent := by
  cases h with
  | halt stop => cases stop <;> exact hs
  | read | readFree | readPop | write | push => exact hs
  | init | transceive | release | async => exact hs.of_seq rfl List.length_set
  | configure k cfg hk =>
    exact ⟨⟨nofun, nofun⟩, fun _ => .inl rfl, fun _ => Nat.lt_of_lt_of_eq hk List.length_set.symm⟩

theorem of_agentEffect (hs : s.seqConsistent) (h : AgentEffect s u t) : t.seqConsistent := by
  cases h with
  | request _ effect => exact hs.of_execEffect effect
  | seq effect => exact hs.of_seqEffect effect
  | halt _ stop => cases stop <;> exact hs
  | release => exact hs.of_seq rfl List.length_set
  | acquire k cfg tx rx _ hslot =>
    have hk : k < s.nClients := s.slot_client (by simp [hslot])
    exact ⟨⟨nofun, nofun⟩, nofun, fun _ => Nat.lt_of_lt_of_eq hk List.length_set.symm⟩
  | wait | frameStart | received | overrun | timeout | memWrite => exact hs

end State.seqConsistent

/-- Settles O46: SEQ's own steps follow the table, and a command is started for a client that exists. -/
theorem stepKeepsSequencerConsistent : Obligations.StepKeepsSequencerConsistent := fun _ _ =>
  step_keeps (fun _ _ hs => hs) fun _ _ _ hs h => hs.of_agentEffect h.agentEffect

/-! ### One command at a time -/

namespace State.exclusive
variable {s t : State} {u : Turn} {k : Nat}

/-- A command is issued or answered: a slot that was not RUNNING is written, and is not RUNNING after it; the lock may
be freed. -/
theorem of_answer (hs : s.exclusive) {v : Slot} (hslots : t.slots = s.slots.set k v) (hfree : s.slot k ≠ .running)
    (hv : v ≠ .running) (hseq : t.seq = s.seq) (hlock : t.lock = s.lock ∨ t.lock = .free) :
    t.exclusive := by
  obtain ⟨hrunning, hheld⟩ := hs
  rw [State.exclusive, hseq]
  refine ⟨fun j => ?_, fun j hj => ?_⟩
  · obtain ⟨-, hold⟩ | ⟨rfl, hnew⟩ := State.slot_of_set hslots j
    · rw [hold]; exact hrunning j
    · rw [hnew]
      exact iff_of_false hv (mt (hrunning j).mpr hfree)
  · obtain hsame | hfreed := hlock
    · exact hheld j (hsame.symm.trans hj)
    · exact absurd (hfreed.symm.trans hj) nofun

/-- With no command running, a command of client `k` is started. -/
theorem of_start (hs : s.exclusive) (hidle : s.seq.op = .none) (hk : k < s.nClients)
    (hslots : t.slots = s.slots.set k .running) (hop : t.seq.op ≠ .none) (hclient : t.seq.client = k)
    (hlock : ∀ j, t.lock = .held j → t.seq.op = .transceive ∧ t.seq.client = j) : t.exclusive := by
  refine ⟨fun j => ?_, hlock⟩
  by_cases hj : j = k
  · subst hj
    have hrun : t.slot j = .running := by
      rw [State.slot, hslots, List.getElem?_set_self hk]; rfl
    exact iff_of_true hrun ⟨hop, hclient⟩
  · obtain ⟨-, hold⟩ | ⟨hjk, -⟩ := State.slot_of_set hslots j
    · rw [hold, hs.1 j]
      exact iff_of_false (fun h => h.1 hidle) fun h => hj (h.2.symm.trans hclient)
    · exact absurd hjk hj

/-- With no command running nobody holds the lock. -/
theorem lock_free_of_idle (hs : s.exclusive) (hidle : s.seq.op = .none) (j : Nat) : s.lock ≠ .held j := fun hj =>
  absurd (hidle.symm.trans (hs.2 j hj).1) nofun

/-- The end of SEQ's command answers its client, whose slot was the only one RUNNING, and leaves the lock FREE. -/
theorem of_endCommand (hs : s.exclusive) (code : ResultCode) : (endCommand code s).exclusive := by
  obtain ⟨hrunning, hheld⟩ := hs
  have hslots : (endCommand code s).slots = s.slots.set s.seq.client (.done code) := by rw [endCommand_eq]
  have hlock : (endCommand code s).lock = if s.seq.op = .transceive then .free else s.lock := by rw [endCommand_eq]
  refine ⟨fun j => iff_of_false (fun hrun => ?_) fun h => h.1 rfl, fun j hj => ?_⟩
  · obtain ⟨hrange, hold⟩ | ⟨-, hnew⟩ := State.slot_of_set hslots j
    · rw [hold] at hrun
      obtain ⟨-, rfl⟩ := (hrunning j).mp hrun
      exact absurd (s.slot_client (by simp [hrun])) (Nat.not_lt.mpr (hrange rfl))
    · exact absurd (hnew.symm.trans hrun) nofun
  · rw [hlock] at hj
    split at hj
    · exact absurd hj nofun
    · exact absurd (hheld j hj).1 ‹_›

theorem of_seqEffect (hs : s.exclusive) (h : SeqEffect s t) : t.exclusive := by
  cases h with
  | finish code => exact hs.of_endCommand code
  | _ => exact hs

theorem of_execEffect (hs : s.exclusive) (h : ExecEffect s t) : t.exclusive := by
  cases h with
  | halt stop => cases stop <;> exact hs
  | read | readFree | readPop | write | push => exact hs
  | init k _ hfree => exact hs.of_answer rfl (State.free_of_not_pending hfree).2 nofun rfl (.inr rfl)
  | transceive k _ _ _ _ hfree | release k _ hfree | async k _ hfree =>
    exact hs.of_answer rfl (State.free_of_not_pending hfree).2 nofun rfl (.inl rfl)
  | configure k cfg hk _ _ hidle =>
    exact hs.of_start hidle hk rfl nofun rfl fun j hj => absurd hj (hs.lock_free_of_idle hidle j)

theorem of_agentEffect (hs : s.exclusive) (h : AgentEffect s u t) : t.exclusive := by
  cases h with
  | request _ effect => exact hs.of_execEffect effect
  | seq effect => exact hs.of_seqEffect effect
  | halt _ stop => cases stop <;> exact hs
  | release k hslot => exact hs.of_answer rfl (by simp [hslot]) nofun rfl (.inr rfl)
  | acquire k cfg tx rx _ hslot hidle =>
    have hk : k < s.nClients := s.slot_client (by simp [hslot])
    refine hs.of_start hidle hk rfl nofun rfl fun j hj => ⟨rfl, ?_⟩
    cases hj; rfl
  | wait | frameStart | received | overrun | timeout | memWrite => exact hs

end State.exclusive

/-- Settles O47: a slot becomes RUNNING only when a command is started, which needs SEQ to run none. -/
theorem stepKeepsCommandsExclusive : Obligations.StepKeepsCommandsExclusive := fun _ _ _ =>
  step_keeps (fun _ _ hs => hs) fun _ _ _ hs h => hs.of_agentEffect h.agentEffect

end Sys2Proof.Machine
end

section
/-! Chip select brackets the pump (spec/43_transfer_context.md R120 to R122): SELECT and DESELECT are the only steps that cross
the border of the states in which it is asserted, and each emits its event. -/
namespace Sys2Proof.Machine

theorem csAfter_append (es es' : List Event) (level : Bool) :
    csAfter level (es ++ es') = (csAfter level es).bind (csAfter · es') := by
  induction es generalizing level with
  | nil => rfl
  | cons e es ih =>
    cases e with
    | cs l =>
      simp only [List.cons_append, csAfter]
      split
      · rfl
      · exact ih l
    | regw | frame | overrun | result => exact ih level

namespace State.csBracketed
variable {s t : State} {u : Turn} {q r : SeqState}

/-- An event that is no CS event. -/
theorem emit (hs : s.csBracketed) (e : Event) (he : ∀ level, csAfter level [e] = some level) :
    (s.emit e).csBracketed := by
  obtain ⟨hidle, hcs, htrace⟩ := hs
  refine ⟨hidle, hcs, ?_⟩
  rw [State.emit, State.setTrace_trace, csAfter_append, htrace]
  exact he s.cs

/-- SEQ goes on with its command on the same side of the border. -/
theorem move (hs : s.csBracketed) (hstate : s.seq.state = q) (hmove : q ≠ .idle ∧ r.selected = q.selected) :
    (s.goto r).csBracketed := by
  obtain ⟨hidle, hcs, htrace⟩ := hs
  obtain ⟨hq, hselected⟩ := hmove
  refine ⟨fun hop => absurd (hidle hop) (hstate ▸ hq), ?_, htrace⟩
  rw [hstate, ← hselected] at hcs
  exact hcs

/-- SEQ crosses the border with the CS event of the other level. -/
theorem cross (hs : s.csBracketed) (hstate : s.seq.state = q) (hmove : q ≠ .idle ∧ r.selected = !q.selected) :
    ((s.driveCs r.selected).goto r).csBracketed := by
  obtain ⟨hidle, hcs, htrace⟩ := hs
  obtain ⟨hq, hselected⟩ := hmove
  refine ⟨fun hop => absurd (hidle hop) (hstate ▸ hq), rfl, ?_⟩
  have hother : r.selected ≠ s.cs := by rw [hcs, hstate, hselected]; exact Bool.not_ne_self _
  have hevent : csAfter s.cs [.cs r.selected] = some r.selected := if_neg hother
  simpa [csAfter_append, htrace] using hevent

theorem afterConfig_selected (op : SeqOp) : (afterConfig op).selected = false := by
  cases op <;> rfl

theorem of_seqEffect (hs : s.csBracketed) (h : SeqEffect s t) : t.csBracketed := by
  cases h with
  | stay | discard | pop | midFrame => exact hs
  | waited h | flushed h | rejected h | push h | noPush h | pumped h | more h => exact hs.move h (by decide)
  | writeCr0 h | writeCr1 h | enable h => exact (hs.move h (by decide)).emit _ fun _ => rfl
  | checked q h hnext =>
    have hselected : q.selected = false := by
      obtain rfl | rfl := hnext
      exacts [rfl, afterConfig_selected _]
    exact hs.move h ⟨by decide, hselected⟩
  | writeCpsr h => exact (hs.move h ⟨by decide, afterConfig_selected _⟩).emit _ fun _ => rfl
  | select h => exact hs.cross h (r := .enable) (by decide)
  | deselect h => exact hs.cross h (r := .finish) (by decide)
  | finish code h =>
    obtain ⟨-, hcs, htrace⟩ := hs.emit (.result s.seq.client code) fun _ => rfl
    rw [endCommand_eq]
    have hborder : s.seq.state.selected = false := by obtain h | h := h <;> rw [h] <;> rfl
    exact ⟨fun _ => rfl, hcs.trans hborder, htrace⟩

theorem of_execEffect (hs : s.csBracketed) (h : ExecEffect s t) : t.csBracketed := by
  cases h with
  | halt stop => cases stop <;> exact hs
  | read | readFree | readPop | transceive | release => exact hs
  | write | push | init | async => exact hs.emit _ fun _ => rfl
  | configure k cfg _ _ _ hop =>
    obtain ⟨hidle, hcs, htrace⟩ := hs
    exact ⟨nofun, by rw [hidle hop] at hcs; exact hcs, htrace⟩

theorem of_agentEffect (hs : s.csBracketed) (h : AgentEffect s u t) : t.csBracketed := by
  cases h with
  | request _ effect => exact hs.of_execEffect effect
  | seq effect => exact hs.of_seqEffect effect
  | halt _ stop => cases stop <;> exact hs
  | release | received => exact hs.emit _ fun _ => rfl
  | overrun => exact (hs.emit _ fun _ => rfl).emit _ fun _ => rfl
  | acquire k cfg tx rx _ _ hop =>
    obtain ⟨hidle, hcs, htrace⟩ := hs
    exact ⟨nofun, by rw [hidle hop] at hcs; exact hcs, htrace⟩
  | wait | frameStart | timeout | memWrite => exact hs

end State.csBracketed

/-- Settles O48: the two steps that cross the border drive chip select, and every other step keeps to its side. -/
theorem stepKeepsChipSelectBracketed : Obligations.StepKeepsChipSelectBracketed := fun _ _ =>
  step_keeps (fun _ _ hs => hs) fun _ _ _ hs h => hs.of_agentEffect h.agentEffect

end Sys2Proof.Machine
end

section
/-! The image write in progress (spec/42_config_cache.md R109, R111 to R114): the candidate's words have no bits but those that
the registers store, so each register reads as the candidate once it is written. -/
namespace Sys2Proof.Machine

/-! ### The candidate fits the registers -/

/-- A word with `n` bits is what a register of `n` bits reads after it was written. -/
theorem setWidth_extractLsb'_setWidth {n : Nat} (h : n ≤ 32) (x : BitVec n) :
    ((x.setWidth 32).extractLsb' 0 n).setWidth 32 = x.setWidth 32 :=
  congrArg (BitVec.setWidth 32) ((BitVec.extractLsb'_setWidth_of_le (by omega)).trans BitVec.extractLsb'_eq_self)

theorem candidate_cr0_fits (p : BitVec 32) (cfg : CfgWord) :
    ((candidate p cfg).cr0.extractLsb' 0 16).setWidth 32 = (candidate p cfg).cr0 :=
  setWidth_extractLsb'_setWidth (n := 16) (by decide) _

theorem candidate_cr1_fits (p : BitVec 32) (cfg : CfgWord) :
    ((candidate p cfg).cr1.extractLsb' 0 4).setWidth 32 = (candidate p cfg).cr1 :=
  setWidth_extractLsb'_setWidth (n := 4) (by decide) _

/-- The prescaler is even and below 256, so CPSR, which does not store bit 0, holds it (R99, 10_state.md R23). -/
theorem candidate_cpsr_fits (p : BitVec 32) (cfg : CfgWord) :
    ((candidate p cfg).cpsr.extractLsb' 1 7 ++ 0#1).setWidth 32 = (candidate p cfg).cpsr := by
  obtain ⟨heven, -, hhigh, -⟩ := legalPair_resolve p.toNat (cfgFreq cfg).toNat
  have hvalue := candidate_cpsr_toNat p cfg
  apply BitVec.eq_of_toNat_eq
  simp only [BitVec.toNat_setWidth, toNat_append_eq_add, BitVec.extractLsb'_toNat, Nat.shiftRight_eq_div_pow,
    BitVec.toNat_ofNat]
  omega

/-! ### The invariant -/

/-- The states in which SEQ writes the image. -/
def SeqState.writesImage : SeqState → Bool
  | .writeCr0 | .writeCr1 | .writeCpsr => true
  | .idle | .waitBusy | .flush | .check | .failed | .select | .enable | .fill | .drain | .deselect | .finish => false

theorem afterConfig_writesImage (op : SeqOp) : (afterConfig op).writesImage = false := by
  cases op <;> rfl

namespace State.imageInProgress
variable {s t : State} {u : Turn}

/-- In a state in which SEQ writes no image. -/
theorem of_outside (hop : t.seq.op = .none → t.seq.state = .idle) (h : t.seq.state.writesImage = false) :
    t.imageInProgress := by
  refine ⟨hop, fun hw => ?_, fun hw => ?_, fun hw => ?_⟩
  · obtain hw | hw | hw := hw <;> exact absurd (hw ▸ h) nofun
  · obtain hw | hw := hw <;> exact absurd (hw ▸ h) nofun
  · exact absurd (hw ▸ h) nofun

/-- The WRITE_CR0 step stores the candidate's word (R111). -/
theorem after_writeCr0 (hs : s.imageInProgress) (hstate : s.seq.state = .writeCr0) :
    (writeCr0Step s).imageInProgress := by
  obtain ⟨hidle, hcand, -, -⟩ := hs
  have hcand : s.seq.cand = candidate s.par.pClkHz s.seq.cfg := hcand (.inl hstate)
  refine ⟨fun hop => absurd (hidle hop) (by simp [hstate]), fun _ => hcand, fun _ => ?_, nofun⟩
  change (s.seq.cand.cr0.extractLsb' 0 16).setWidth 32 = s.seq.cand.cr0
  rw [hcand]
  exact candidate_cr0_fits _ _

/-- The WRITE_CR1 step stores the candidate's word and leaves CR0 alone (R112). -/
theorem after_writeCr1 (hs : s.imageInProgress) (hstate : s.seq.state = .writeCr1) :
    (((s.writeCr1 s.seq.cand.cr1).emit (.regw .seq 0x04 s.seq.cand.cr1)).goto .writeCpsr).imageInProgress := by
  obtain ⟨hidle, hcand, hcr0, -⟩ := hs
  have hcand : s.seq.cand = candidate s.par.pClkHz s.seq.cfg := hcand (.inr (.inl hstate))
  refine ⟨fun hop => absurd (hidle hop) (by simp [hstate]), fun _ => hcand, fun _ => hcr0 (.inl hstate), fun _ => ?_⟩
  change (s.seq.cand.cr1.extractLsb' 0 4).setWidth 32 = s.seq.cand.cr1
  rw [hcand]
  exact candidate_cr1_fits _ _

/-- CHECK builds the candidate that a cache miss writes (R109). -/
theorem after_check (hs : s.imageInProgress) (hstate : s.seq.state = .check) {q : SeqState}
    (hnext : q = .writeCr0 ∨ q = afterConfig s.seq.op) :
    ((s.setSeq { s.seq with cand := candidate s.par.pClkHz s.seq.cfg }).goto q).imageInProgress := by
  have hop : s.seq.op ≠ .none := fun hop => absurd (hs.1 hop) (by simp [hstate])
  obtain rfl | rfl := hnext
  · exact ⟨fun h => absurd h hop, fun _ => rfl, fun h => h.elim nofun nofun, nofun⟩
  · exact of_outside (fun h => absurd h hop) (afterConfig_writesImage _)

theorem of_seqEffect (hs : s.imageInProgress) (h : SeqEffect s t) : t.imageInProgress := by
  have hop (hstate : s.seq.state ≠ .idle) : s.seq.op ≠ .none := mt hs.1 hstate
  cases h with
  | stay | discard | pop | midFrame => exact hs
  | checked q h hnext => exact hs.after_check h hnext
  | writeCr0 h => exact hs.after_writeCr0 h
  | writeCr1 h => exact hs.after_writeCr1 h
  | writeCpsr h => exact of_outside (fun hnone => absurd hnone (hop (by simp [h]))) (afterConfig_writesImage _)
  | waited h | flushed h | rejected h | select h | enable h | push h | noPush h | pumped h | more h | deselect h =>
    exact of_outside (fun hnone => absurd hnone (hop (by simp [h]))) rfl
  | finish code => rw [endCommand_eq]; exact of_outside (fun _ => rfl) rfl

/-- HOST writes registers only while SEQ is in IDLE (40_register_access.md R76). -/
theorem of_execEffect (hs : s.imageInProgress) (h : ExecEffect s t) : t.imageInProgress := by
  cases h with
  | halt stop => cases stop <;> exact hs
  | write off w r _ hidle => exact of_outside (fun _ => hs.1 hidle) (congrArg SeqState.writesImage (hs.1 hidle))
  | configure => exact of_outside nofun rfl
  | read | readFree | readPop | push | init | transceive | release | async => exact hs

theorem of_agentEffect (hs : s.imageInProgress) (h : AgentEffect s u t) : t.imageInProgress := by
  cases h with
  | request _ effect => exact hs.of_execEffect effect
  | seq effect => exact hs.of_seqEffect effect
  | halt _ stop => cases stop <;> exact hs
  | acquire => exact of_outside nofun rfl
  | release | wait | frameStart | received | overrun | timeout | memWrite => exact hs

/-- The WRITE_CPSR step completes the image: the live registers read as the cached one (R114). -/
theorem cached_after_writeCpsr (hs : s.imageInProgress) (hstate : s.seq.state = .writeCpsr) :
    (writeCpsrStep s).cache = { valid := true, image := (writeCpsrStep s).liveImage } := by
  obtain ⟨-, hcand, hcr0, hcr1⟩ := hs
  have hcand : s.seq.cand = candidate s.par.pClkHz s.seq.cfg := hcand (.inr (.inr hstate))
  have hcpsr : (s.seq.cand.cpsr.extractLsb' 1 7 ++ 0#1).setWidth 32 = s.seq.cand.cpsr := by
    rw [hcand]
    exact candidate_cpsr_fits _ _
  change Cache.mk true s.seq.cand =
    Cache.mk true ⟨s.readCr0, s.readCr1, (s.seq.cand.cpsr.extractLsb' 1 7 ++ 0#1).setWidth 32⟩
  rw [hcr0 (.inr hstate), hcr1 hstate, hcpsr]

end State.imageInProgress

/-- Settles O50: each write leaves its register reading as the candidate, and the third one also caches it. -/
theorem stepKeepsImageInProgress : Obligations.StepKeepsImageInProgress := by
  refine ⟨fun s t => step_keeps (fun _ _ hs => hs) fun _ _ _ hs h => hs.of_agentEffect h.agentEffect,
    fun s t hs hstate hrun => ?_⟩
  rw [runTurn_seq_of_writeCpsr hstate] at hrun
  cases hrun
  rw [hs.cached_after_writeCpsr hstate]
  exact ⟨rfl, rfl, rfl, rfl⟩

end Sys2Proof.Machine
end

section
/-! The accounting of the pump, state by state (spec/44_pump_engine.md R130): each step of the pump moves one unit on or none,
and outside FILL and DRAIN a frame is on its way only before the flush. So no frame of a pump overruns. -/
namespace Sys2Proof.Machine

/-! ### Units in flight -/

namespace State.inflightAccounted
variable {s : State}

/-- A frame in progress is a unit in flight, so with INFLIGHT_LIMIT <= FIFO_DEPTH RXFIFO has room for it. -/
theorem room_of_busy (h : s.inflightAccounted) (hwithin : s.par.inflightWithinDepth) (hbusy : s.ser.busy = true) :
    s.rxFifo.length < s.par.fifoDepth := by
  obtain ⟨hsum, -, hlimit⟩ := h
  obtain ⟨limit, hpar, hdepth⟩ := hwithin
  have hinflight : s.seq.pushed.toNat ≤ s.seq.popped.toNat + limit := hlimit limit hpar
  rw [State.inShifter_of_busy hbusy] at hsum
  omega

/-- A unit goes from TXFIFO into the shifter. -/
theorem after_frameStart (h : s.inflightAccounted) {e : Entry} {rest : List Entry} (htx : s.txFifo = e :: rest)
    (hidle : s.ser.busy = false) (latched : Image) :
    ((s.setTxFifo rest).setSer { busy := true, shift := e.setWidth 8, latched := latched }).inflightAccounted := by
  obtain ⟨hsum, hbounds⟩ := h
  rw [htx, List.length_cons, State.inShifter_of_idle hidle] at hsum
  refine ⟨?_, hbounds⟩
  change rest.length + 1 + s.rxFifo.length + s.seq.popped.toNat = s.seq.pushed.toNat
  omega

/-- A unit goes from the shifter into RXFIFO. -/
theorem after_received (h : s.inflightAccounted) (hbusy : s.ser.busy = true) (event : Event) (e : Entry) :
    (((s.emit event).pushRx e).setSer { s.ser with busy := false }).inflightAccounted := by
  obtain ⟨hsum, hbounds⟩ := h
  rw [State.inShifter_of_busy hbusy] at hsum
  refine ⟨?_, hbounds⟩
  change s.txFifo.length + 0 + (s.rxFifo ++ [e]).length + s.seq.popped.toNat = s.seq.pushed.toNat
  rw [List.length_append, List.length_singleton]
  omega

/-- The next unit goes into TXFIFO, below INFLIGHT_LIMIT (R127). -/
theorem after_push (h : s.inflightAccounted) (hready : fillReady s = true) : (pushUnit s).inflightAccounted := by
  obtain ⟨hsum, -, -⟩ := h
  obtain ⟨hlt, -, -, hroom⟩ := (fillReady_iff s).mp hready
  have hlt : s.seq.pushed.toNat < s.seq.n.toNat := hlt
  have hcursor : (s.seq.pushed + 1).toNat = s.seq.pushed.toNat + 1 := toNat_add_one_of_lt hlt
  have hinflight : (s.seq.pushed - s.seq.popped).toNat = s.seq.pushed.toNat - s.seq.popped.toNat :=
    BitVec.toNat_sub_of_le (show s.seq.popped.toNat ≤ s.seq.pushed.toNat by omega)
  refine ⟨?_, ?_, fun limit hpar => ?_⟩
  · change (s.txFifo ++ [_]).length + s.inShifter + s.rxFifo.length + s.seq.popped.toNat = (s.seq.pushed + 1).toNat
    rw [List.length_append, List.length_singleton]
    omega
  · change (s.seq.pushed + 1).toNat ≤ s.seq.n.toNat
    omega
  · have hbelow := hroom limit hpar
    change (s.seq.pushed + 1).toNat ≤ s.seq.popped.toNat + limit
    omega

/-- The oldest unit leaves RXFIFO (R128). -/
theorem after_pop (h : s.inflightAccounted) {e : Entry} {rest : List Entry} (hrx : s.rxFifo = e :: rest)
    (m : List Host.Cell) :
    (((s.setRxFifo rest).setMem m).setSeq { s.seq with popped := s.seq.popped + 1 }).inflightAccounted := by
  obtain ⟨hsum, hle, hlimit⟩ := h
  rw [hrx, List.length_cons] at hsum
  have hcursor : (s.seq.popped + 1).toNat = s.seq.popped.toNat + 1 :=
    toNat_add_one_of_lt (n := s.seq.pushed) (by omega)
  refine ⟨?_, hle, fun limit hpar => ?_⟩
  · change s.txFifo.length + s.inShifter + rest.length + (s.seq.popped + 1).toNat = s.seq.pushed.toNat
    omega
  · have hinflight := hlimit limit hpar
    change s.seq.pushed.toNat ≤ (s.seq.popped + 1).toNat + limit
    omega

/-- With every unit popped none is in flight. -/
theorem drained_of_popped (h : s.inflightAccounted) (hcursors : s.seq.pushed = s.seq.n ∧ s.seq.popped = s.seq.n) :
    s.drained := by
  obtain ⟨hsum, -, -⟩ := h
  rw [hcursors.1, hcursors.2] at hsum
  have hidle : s.inShifter = 0 := by omega
  refine ⟨List.length_eq_zero_iff.mp (by omega), List.length_eq_zero_iff.mp (by omega), ?_⟩
  by_contra hbusy
  rw [State.inShifter_of_busy (eq_true_of_ne_false hbusy)] at hidle
  omega

end State.inflightAccounted

/-- Before the pump starts nothing is in flight and nothing was pushed. -/
theorem State.inflightAccounted_of_drained {s : State} (hzero : s.cursorsZero) (hdrained : s.drained) :
    s.inflightAccounted := by
  obtain ⟨hpushed, hpopped⟩ := hzero
  obtain ⟨htx, hrx, hidle⟩ := hdrained
  simp [State.inflightAccounted, hpushed, hpopped, htx, hrx, State.inShifter_of_idle hidle]

/-! ### The accounting, state by state -/

/-- The states of a TRANSCEIVE between the flush and the pump. -/
def SeqState.preparing : SeqState → Bool
  | .check | .writeCr0 | .writeCr1 | .writeCpsr | .select | .enable => true
  | .idle | .waitBusy | .flush | .failed | .fill | .drain | .deselect | .finish => false

namespace State.pumpAccounted
variable {s t : State} {u : Turn}

theorem prepared (hs : s.pumpAccounted) (hop : s.seq.op = .transceive) (hstate : s.seq.state.preparing = true) :
    s.cursorsZero ∧ s.drained := by
  have h := hs hop
  cases hq : s.seq.state <;> rw [hq] at h hstate
  case check | writeCr0 | writeCr1 | writeCpsr | select | enable => exact h
  all_goals exact absurd hstate nofun

theorem of_prepared (h : t.seq.op = .transceive → t.seq.state.preparing = true ∧ t.cursorsZero ∧ t.drained) :
    t.pumpAccounted := by
  intro hop
  obtain ⟨hstate, h⟩ := h hop
  cases hq : t.seq.state <;> rw [hq] at hstate
  case check | writeCr0 | writeCr1 | writeCpsr | select | enable => exact h
  all_goals exact absurd hstate nofun

/-- A step of SER, which has a frame to send or one in progress: the accounting of the pump is all there is to keep, since
past WAIT_BUSY nothing else has frames. -/
theorem of_serial (hs : s.pumpAccounted) (hframe : s.txFifo ≠ [] ∨ s.ser.busy = true) (hseq : t.seq = s.seq)
    (hflight : s.inflightAccounted → t.inflightAccounted) : t.pumpAccounted := by
  have hactive : ¬ (s.txFifo = [] ∧ s.ser.busy = false) := fun ⟨htx, hidle⟩ => hframe.elim (· htx) (by simp [hidle])
  intro hop
  rw [hseq] at hop
  have h := hs hop
  rw [hseq]
  cases hq : s.seq.state <;> rw [hq] at h
  case idle | failed => trivial
  case waitBusy => rwa [State.cursorsZero, hseq]
  case fill | drain => exact hflight h
  case flush => exact absurd h.2 hactive
  case check | writeCr0 | writeCr1 | writeCpsr | select | enable =>
    obtain ⟨-, htx, -, hidle⟩ := h
    exact absurd ⟨htx, hidle⟩ hactive
  case deselect | finish =>
    obtain ⟨⟨htx, -, hidle⟩, -⟩ := h
    exact absurd ⟨htx, hidle⟩ hactive

theorem of_execEffect (hs : s.pumpAccounted) (h : ExecEffect s t) : t.pumpAccounted := by
  cases h with
  | halt stop => cases stop <;> exact hs
  | read | readFree | write | init | transceive | release | async => exact hs
  | readPop _ _ _ hidle | push _ _ hidle => exact fun hop => absurd (hidle.symm.trans hop) nofun
  | configure => exact fun hop => absurd hop nofun

/-- SEQ goes on to the next state of its preparation. -/
theorem prepared_goto (hs : s.pumpAccounted) {q : SeqState} (hstate : s.seq.state.preparing = true)
    (hq : s.seq.op = .transceive → q.preparing = true) : (s.goto q).pumpAccounted :=
  of_prepared fun hop => ⟨hq hop, hs.prepared hop hstate⟩

theorem afterConfig_preparing {op : SeqOp} (hop : op = .transceive) : (afterConfig op).preparing = true := by
  rw [hop]; rfl

theorem of_seqEffect (hs : s.pumpAccounted) (h : SeqEffect s t) : t.pumpAccounted := by
  cases h with
  | stay | midFrame => exact hs
  | waited hstate hquiet =>
    intro hop
    have hzero := hs hop
    rw [hstate] at hzero
    exact ⟨hzero, hquiet.2, hquiet.1⟩
  | discard hstate =>
    intro hop
    have hflush := hs hop
    rw [hstate] at hflush
    rw [State.setRxFifo_seq, hstate]
    exact hflush
  | flushed hstate hrx =>
    refine of_prepared fun hop => ⟨rfl, ?_⟩
    have hflush := hs hop
    rw [hstate] at hflush
    obtain ⟨hzero, htx, hidle⟩ := hflush
    exact ⟨hzero, htx, hrx, hidle⟩
  | rejected => exact fun _ => trivial
  | checked q hstate hnext =>
    refine hs.prepared_goto (by rw [hstate]; rfl) fun hop => ?_
    obtain rfl | rfl := hnext
    exacts [rfl, afterConfig_preparing hop]
  | writeCr0 hstate | writeCr1 hstate | select hstate => exact hs.prepared_goto (by rw [hstate]; rfl) fun _ => rfl
  | writeCpsr hstate => exact hs.prepared_goto (by rw [hstate]; rfl) afterConfig_preparing
  | enable hstate =>
    intro hop
    obtain ⟨hzero, hdrained⟩ := hs.prepared hop (by rw [hstate]; rfl)
    exact State.inflightAccounted_of_drained hzero hdrained
  | push hstate hready => exact fun hop => (hs.inflightAccounted ⟨hop, .inl hstate⟩).after_push hready
  | noPush hstate => exact fun hop => hs.inflightAccounted ⟨hop, .inl hstate⟩
  | pop m hstate hrx =>
    intro hop
    have hflight := (hs.inflightAccounted ⟨hop, .inr hstate⟩).after_pop hrx m
    rw [State.setSeq_seq, hstate]
    exact hflight
  | pumped hstate _ hcursors =>
    exact fun hop => ⟨(hs.inflightAccounted ⟨hop, .inr hstate⟩).drained_of_popped hcursors, hcursors⟩
  | more hstate => exact fun hop => hs.inflightAccounted ⟨hop, .inr hstate⟩
  | deselect hstate =>
    intro hop
    have hdone := hs hop
    rw [hstate] at hdone
    exact hdone
  | finish code => rw [endCommand_eq]; exact fun hop => absurd hop nofun

theorem of_agentEffect (hs : s.pumpAccounted) (hwithin : s.par.inflightWithinDepth) (h : AgentEffect s u t) :
    t.pumpAccounted := by
  cases h with
  | request _ effect => exact hs.of_execEffect effect
  | seq effect => exact hs.of_seqEffect effect
  | halt _ stop => cases stop <;> exact hs
  | acquire => exact fun _ => ⟨rfl, rfl⟩
  | frameStart htx hidle => exact hs.of_serial (.inl (by simp [htx])) rfl fun h => h.after_frameStart htx hidle _
  | received _ hbusy => exact hs.of_serial (.inr hbusy) rfl fun h => h.after_received hbusy _ _
  | overrun _ hbusy hfull =>
    exact hs.of_serial (.inr hbusy) rfl fun h => absurd (h.room_of_busy hwithin hbusy) (Nat.not_lt.mpr hfull)
  | release | wait | timeout | memWrite => exact hs

end State.pumpAccounted

/-- Settles O49: no step writes the parameters, and each keeps the accounting of the state it leaves or enters. -/
theorem stepKeepsPumpAccounted : Obligations.StepKeepsPumpAccounted := by
  intro s t hwithin hs hstep
  obtain ⟨e, heffect⟩ := step_agentEffect hstep
  exact State.pumpAccounted.of_agentEffect (s := s.setEnv e) hs hwithin heffect

/-! ### No overrun -/

section
variable {s t : State} {u : Turn}

/-- While SEQ runs a command a request leaves RORRIS alone and emits a RESULT event at most. -/
theorem ExecEffect.no_overrun (h : ExecEffect s t) (hrun : s.seq.op ≠ .none) :
    t.regs.rorris = s.regs.rorris ∧ (t.trace = s.trace ∨ ∃ k code, t.trace = s.trace ++ [.result k code]) := by
  cases h with
  | halt stop => cases stop <;> exact ⟨rfl, .inl rfl⟩
  | read | readFree | transceive | release => exact ⟨rfl, .inl rfl⟩
  | async k => exact ⟨rfl, .inr ⟨k, .notSupported, rfl⟩⟩
  | readPop _ _ _ hidle | write _ _ _ _ hidle | push _ _ hidle | init _ _ _ hidle | configure _ _ _ _ _ hidle =>
    exact absurd hidle hrun

/-- Of SEQ's state steps FILL and DRAIN leave the registers and TRACE alone. -/
theorem SeqEffect.trace_of_pump (h : SeqEffect s t) (hpump : s.seq.state = .fill ∨ s.seq.state = .drain) :
    t.regs = s.regs ∧ t.trace = s.trace := by
  cases h with
  | push | noPush | pop | pumped | more => exact ⟨rfl, rfl⟩
  | stay h | finish _ h => obtain h | h := h <;> rw [h] at hpump <;> exact hpump.elim nofun nofun
  | waited h | discard h | flushed h | rejected h | checked _ h | writeCr0 h | midFrame _ h | writeCr1 h | writeCpsr h
  | select h | enable h | deselect h => rw [h] at hpump; exact hpump.elim nofun nofun

/-- In the pump a turn leaves RORRIS alone and emits one event at most, which is no OVERRUN. -/
theorem AgentEffect.no_overrun (h : AgentEffect s u t) (hwithin : s.par.inflightWithinDepth) (hs : s.pumpAccounted)
    (hpump : s.inPump) :
    t.regs.rorris = s.regs.rorris ∧ (t.trace = s.trace ∨ ∃ e, t.trace = s.trace ++ [e] ∧ ∀ m, e ≠ .overrun m) := by
  cases h with
  | request _ effect =>
    obtain ⟨hror, htrace⟩ := effect.no_overrun (by rw [hpump.1]; decide)
    exact ⟨hror, htrace.imp id fun ⟨k, code, h⟩ => ⟨.result k code, h, nofun⟩⟩
  | seq effect =>
    obtain ⟨hregs, htrace⟩ := effect.trace_of_pump hpump.2
    exact ⟨congrArg Regs.rorris hregs, .inl htrace⟩
  | halt _ stop => cases stop <;> exact ⟨rfl, .inl rfl⟩
  | release k => exact ⟨rfl, .inr ⟨.result k .ok, rfl, nofun⟩⟩
  | received miso => exact ⟨rfl, .inr ⟨s.frameEvent (frameMiso s miso), rfl, nofun⟩⟩
  | overrun _ hbusy hfull =>
    exact absurd ((hs.inflightAccounted hpump).room_of_busy hwithin hbusy) (Nat.not_lt.mpr hfull)
  | wait | acquire | frameStart | timeout | memWrite => exact ⟨rfl, .inl rfl⟩

end

/-- Settles O52: the one event of a step in the pump is no OVERRUN. -/
theorem noOverrunDuringPump : Obligations.NoOverrunDuringPump := by
  intro s t hwithin hs hop hstate hstep
  obtain ⟨e, heffect⟩ := step_agentEffect hstep
  obtain ⟨hror, htrace⟩ := heffect.no_overrun hwithin hs ⟨hop, hstate⟩
  refine ⟨hror, fun m => ?_⟩
  obtain hsame | ⟨event, hone, hother⟩ := htrace
  · have hsame : t.trace = s.trace := hsame
    simp [hsame]
  · have hone : t.trace = s.trace ++ [event] := hone
    simpa [hone] using hother m

end Sys2Proof.Machine
end

section
/-! The loopback round trip (spec/44_pump_engine.md R132): the units in flight, oldest first, are the transmit bytes from the
receive cursor on. FILL adds the next one at the young end, a frame moves one on without changing it, and DRAIN takes the
oldest; what DRAIN stores lies outside the transmit buffers. -/
namespace Sys2Proof.Machine

/-! ### Transmit bytes and memory -/

/-- A byte of a buffer set lies in one of its buffers. -/
theorem bufCovers_of_bufAddr {set : BufSet} {i : Nat} {a : Addr} (h : bufAddr set i = some a) :
    bufCovers set a = true := by
  cases set with
  | none => cases h
  | some ds =>
    change descsAddr ds i = some a at h
    change ds.any _ = true
    induction ds generalizing i with
    | nil => cases h
    | cons d ds ih =>
      rw [List.any_cons, Bool.or_eq_true]
      unfold descsAddr at h
      split at h
      · rename_i hi
        cases h
        have hoffset : (d.addr + BitVec.ofNat 32 i - d.addr).toNat = i := by
          rw [add_sub_cancel_left, BitVec.toNat_ofNat, Nat.mod_eq_of_lt (hi.trans d.len.isLt)]
        exact .inl (decide_eq_true (hoffset.symm ▸ hi))
      · exact .inr (ih h)

/-- The transmit bytes depend on memory at the transmit buffers only. -/
theorem txByte_congr {s t : State} (htx : t.seq.tx = s.seq.tx) (hlen : t.seq.txLen = s.seq.txLen)
    (hmem : ∀ a, bufCovers s.seq.tx a = true → t.memRead a = s.memRead a) (i : BitVec 32) : txByte t i = txByte s i := by
  rw [txByte, txByte, htx, hlen]
  split
  · cases ha : bufAddr s.seq.tx i.toNat with
    | none => rfl
    | some a => exact hmem a (bufCovers_of_bufAddr ha)
  · rfl

/-! ### The units in flight -/

theorem State.length_unitsInFlight (s : State) :
    s.unitsInFlight.length = s.rxFifo.length + s.inShifter + s.txFifo.length := by
  rw [State.unitsInFlight, List.length_append, List.length_append, List.length_map, List.length_map]
  cases hbusy : s.ser.busy with
  | true => rw [State.inShifter_of_busy hbusy]; rfl
  | false => rw [State.inShifter_of_idle hbusy]; rfl

/-- The frame in progress is a loopback one, and the units in flight are the transmit bytes from the receive cursor on. -/
def State.echoes (s : State) : Prop :=
  (s.ser.busy = true → s.ser.latched.cr1.getLsbD 0 = true) ∧
    ∀ (j : Nat) (b : Byte), s.unitsInFlight[j]? = some b → b = txByte s (s.seq.popped + BitVec.ofNat 32 j)

theorem State.loopbackInOrder_iff (s : State) :
    s.loopbackInOrder ↔ (s.inPump → s.regs.lbm = true → s.echoes) :=
  ⟨fun h ⟨hop, hstate⟩ => h hop hstate, fun h hop hstate => h ⟨hop, hstate⟩⟩

namespace State.echoes
variable {s t : State}

/-- The units may change their places, but not their order. -/
theorem of_units (hs : s.echoes) (hunits : t.unitsInFlight = s.unitsInFlight) (hpopped : t.seq.popped = s.seq.popped)
    (hbyte : ∀ i, txByte t i = txByte s i) (hframe : t.ser.busy = true → t.ser.latched.cr1.getLsbD 0 = true) :
    t.echoes := by
  refine ⟨hframe, fun j b hj => ?_⟩
  rw [hunits] at hj
  rw [hbyte, hpopped]
  exact hs.2 j b hj

theorem of_drained (h : s.drained) : s.echoes := by
  obtain ⟨htx, hrx, hidle⟩ := h
  refine ⟨by simp [hidle], fun j b hj => ?_⟩
  simp [State.unitsInFlight, htx, hrx, hidle] at hj

theorem after_frameStart (hs : s.echoes) {e : Entry} {rest : List Entry} (htx : s.txFifo = e :: rest)
    (hidle : s.ser.busy = false) (hlbm : s.regs.lbm = true) :
    ((s.setTxFifo rest).setSer { busy := true, shift := e.setWidth 8, latched := s.liveImage }).echoes := by
  refine hs.of_units ?_ rfl (fun _ => rfl) fun _ => ?_
  · simp [State.unitsInFlight, htx, hidle]
  · simpa [State.liveImage, State.readCr1, Regs.lbm] using hlbm

/-- The byte received is the byte sent (R135). -/
theorem after_received (hs : s.echoes) (hbusy : s.ser.busy = true) (event : Event) (dataIn : Byte) :
    (((s.emit event).pushRx ((frameMiso s dataIn).setWidth 16)).setSer { s.ser with busy := false }).echoes := by
  have hmiso : frameMiso s dataIn = s.ser.shift := if_pos (hs.1 hbusy)
  refine hs.of_units ?_ rfl (fun _ => rfl) nofun
  simp [State.unitsInFlight, hmiso, hbusy]

/-- The unit pushed is as far from the receive cursor as there are units in flight. -/
theorem after_push (hs : s.echoes) (hflight : s.inflightAccounted) : (pushUnit s).echoes := by
  obtain ⟨hframe, horder⟩ := hs
  obtain ⟨hsum, -, -⟩ := hflight
  have hlength := s.length_unitsInFlight
  have hcursor : s.seq.popped + BitVec.ofNat 32 s.unitsInFlight.length = s.seq.pushed := by
    have hbound := s.seq.pushed.isLt
    apply BitVec.eq_of_toNat_eq
    rw [BitVec.toNat_add, BitVec.toNat_ofNat]
    omega
  have hunits : (pushUnit s).unitsInFlight = s.unitsInFlight ++ [txByte s s.seq.pushed] := by
    simp [State.unitsInFlight, pushUnit]
  refine ⟨hframe, fun j b hj => ?_⟩
  rw [hunits] at hj
  obtain hlt | hge := Nat.lt_or_ge j s.unitsInFlight.length
  · rw [List.getElem?_append_left hlt] at hj
    exact horder j b hj
  · obtain ⟨hj0, rfl⟩ : j = s.unitsInFlight.length ∧ txByte s s.seq.pushed = b := by
      rw [List.getElem?_append_right hge, List.getElem?_singleton] at hj
      split at hj
      · exact ⟨by omega, Option.some.inj hj⟩
      · cases hj
    rw [hj0]
    exact congrArg (txByte s) hcursor.symm

/-- The oldest unit goes, and the receive cursor moves on to the next; its byte is stored outside the transmit buffers. -/
theorem after_pop (hs : s.echoes) {e : Entry} {rest : List Entry} (hrx : s.rxFifo = e :: rest) {m : List Host.Cell}
    (hmem : ∀ a, bufCovers s.seq.tx a = true → (s.setMem m).memRead a = s.memRead a) :
    (((s.setRxFifo rest).setMem m).setSeq { s.seq with popped := s.seq.popped + 1 }).echoes := by
  obtain ⟨hframe, horder⟩ := hs
  refine ⟨hframe, fun j b hj => ?_⟩
  have hunits : s.unitsInFlight[j + 1]? = some b := by
    rw [← hj]
    simp [State.unitsInFlight, hrx]
  have hcursor : s.seq.popped + BitVec.ofNat 32 (j + 1) = s.seq.popped + 1 + BitVec.ofNat 32 j := by
    rw [Nat.add_comm, BitVec.ofNat_add, ← BitVec.add_assoc]
    rfl
  rw [horder (j + 1) b hunits, hcursor]
  exact (txByte_congr (s := s) (t := s.setMem m) rfl rfl hmem _).symm

end State.echoes

/-! ### The invariant -/

namespace State.loopbackInOrder
variable {s t : State} {u : Turn}

/-- A step that does not leave SEQ in the pump. -/
theorem of_outside (h : ¬ t.inPump) : t.loopbackInOrder := t.loopbackInOrder_iff.mpr fun hpump => absurd hpump h

theorem of_execEffect (hs : s.loopbackInOrder) (h : ExecEffect s t) : t.loopbackInOrder := by
  cases h with
  | halt stop => cases stop <;> exact hs
  | read | readFree | init | transceive | release | async => exact hs
  | readPop _ _ _ hidle | write _ _ _ _ hidle | push _ _ hidle =>
    exact of_outside fun hpump => absurd (hidle.symm.trans hpump.1) nofun
  | configure => exact of_outside fun hpump => absurd hpump.1 nofun

theorem afterConfig_not_pump (op : SeqOp) : ¬ (afterConfig op = .fill ∨ afterConfig op = .drain) := by
  cases op <;> exact fun h => h.elim nofun nofun

/-- The bytes that DRAIN stores lie in the receive buffers. -/
theorem memRead_of_pop (hmem : s.memCanonical) (hdisjoint : s.buffersDisjoint) {e : Entry} {m : List Host.Cell}
    (hm : m = s.mem ∨ ∃ a, bufAddr s.seq.rx s.seq.popped.toNat = some a ∧ m = memPut s.mem a.toNat (e.setWidth 8))
    (b : Addr) (hb : bufCovers s.seq.tx b = true) : (s.setMem m).memRead b = s.memRead b := by
  obtain rfl | ⟨a, ha, rfl⟩ := hm
  · rfl
  · refine memRead_memWrite_other s _ hmem fun hba => ?_
    have hcovered : bufCovers s.seq.rx b = true := bufCovers_of_bufAddr (hba ▸ ha)
    exact absurd (hcovered.symm.trans (hdisjoint b hb)) nofun

theorem of_seqEffect (hs : s.loopbackInOrder) (hmem : s.memCanonical) (hdisjoint : s.buffersDisjoint)
    (hacc : s.pumpAccounted) (h : SeqEffect s t) : t.loopbackInOrder := by
  have hsame := s.loopbackInOrder_iff.mp hs
  cases h with
  | stay | midFrame => exact hs
  | discard hstate =>
    exact of_outside fun hpump => absurd hpump.2 (by simp [hstate])
  | enable hstate =>
    refine (State.loopbackInOrder_iff _).mpr fun ⟨hop, _⟩ _ => State.echoes.of_drained ?_
    exact (hacc.prepared hop (by rw [hstate]; rfl)).2
  | push hstate =>
    refine (State.loopbackInOrder_iff _).mpr fun ⟨hop, _⟩ hlbm => ?_
    exact (hsame ⟨hop, .inl hstate⟩ hlbm).after_push (hacc.inflightAccounted ⟨hop, .inl hstate⟩)
  | pop m hstate hrx hm =>
    refine (State.loopbackInOrder_iff _).mpr fun ⟨hop, _⟩ hlbm => ?_
    exact (hsame ⟨hop, .inr hstate⟩ hlbm).after_pop hrx (memRead_of_pop hmem hdisjoint hm)
  | noPush hstate => exact (State.loopbackInOrder_iff _).mpr fun ⟨hop, _⟩ => hsame ⟨hop, .inl hstate⟩
  | more hstate => exact (State.loopbackInOrder_iff _).mpr fun ⟨hop, _⟩ => hsame ⟨hop, .inr hstate⟩
  | checked q _ hnext =>
    refine of_outside fun hpump => ?_
    obtain rfl | rfl := hnext
    exacts [hpump.2.elim nofun nofun, afterConfig_not_pump _ hpump.2]
  | writeCpsr => exact of_outside fun hpump => afterConfig_not_pump _ hpump.2
  | waited | flushed | rejected | writeCr0 | writeCr1 | select | pumped | deselect =>
    exact of_outside fun hpump => hpump.2.elim nofun nofun
  | finish code => rw [endCommand_eq]; exact of_outside fun hpump => absurd hpump.1 nofun

theorem of_agentEffect (hs : s.loopbackInOrder) (hwithin : s.par.inflightWithinDepth) (hmem : s.memCanonical)
    (hdisjoint : s.buffersDisjoint) (hacc : s.pumpAccounted) (h : AgentEffect s u t) : t.loopbackInOrder := by
  have hsame := s.loopbackInOrder_iff.mp hs
  cases h with
  | request _ effect => exact hs.of_execEffect effect
  | seq effect => exact hs.of_seqEffect hmem hdisjoint hacc effect
  | halt _ stop => cases stop <;> exact hs
  | acquire => exact of_outside fun hpump => hpump.2.elim nofun nofun
  | frameStart htx hidle =>
    exact (State.loopbackInOrder_iff _).mpr fun hpump hlbm => (hsame hpump hlbm).after_frameStart htx hidle hlbm
  | received dataIn hbusy =>
    exact (State.loopbackInOrder_iff _).mpr fun hpump hlbm => (hsame hpump hlbm).after_received hbusy _ dataIn
  | overrun _ hbusy hfull =>
    refine of_outside fun hpump => absurd ?_ (Nat.not_lt.mpr hfull)
    exact (hacc.inflightAccounted hpump).room_of_busy hwithin hbusy
  | memWrite a v hfree =>
    refine (State.loopbackInOrder_iff _).mpr fun hpump hlbm => ?_
    have hop : s.seq.op = .transceive := hpump.1
    have hs' := hsame hpump hlbm
    refine hs'.of_units rfl rfl (txByte_congr rfl rfl fun b hb => ?_) hs'.1
    refine memRead_memWrite_other s v hmem fun hba => ?_
    simp [State.inUse, hop, ← hba, hb] at hfree
  | release | wait | timeout => exact hs

end State.loopbackInOrder

/-- Settles O53: every turn keeps the order of the units in flight, and the unit a DRAIN step pops is the oldest. -/
theorem loopbackEchoesInOrder : Obligations.LoopbackEchoesInOrder := by
  refine ⟨fun s t hwithin hmem hdisjoint hacc hs hstep => ?_, fun s e rest hs hop hstate hlbm hrx => ?_⟩
  · obtain ⟨env, heffect⟩ := step_agentEffect hstep
    exact State.loopbackInOrder.of_agentEffect (s := s.setEnv env) hs hwithin hmem hdisjoint hacc heffect
  · obtain ⟨-, horder⟩ := hs hop (.inr hstate) hlbm
    have holdest := horder 0 (e.setWidth 8) (by simp [State.unitsInFlight, hrx])
    simpa using holdest

end Sys2Proof.Machine
end
